-- ==== Sys2Proof/Word.lean ====
section
/-! DEFINITION. The machine's value types (spec 00_scope.md R7, R10): 8-bit cells and 16-bit words. -/

namespace Sys2Proof

/-- A byte: a register cell, a memory cell, a port cell (R7, R20, R34, R52). -/
abbrev Byte := BitVec 8

/-- A 16-bit value: a composite register, `PC`, `SP`, a main-memory address (R7, R23, R26, R27, R50). -/
abbrev Word := BitVec 16

end Sys2Proof
end

