-- ==== Sys2Proof/Machine/Bits.lean ====
section
/-! DEFINITION. Byte-order, bit-field and sign-extension helpers (spec 00_scope.md R9, R10; 20_memory.md R54). -/

namespace Sys2Proof

/-- `v[15:8]`, the high byte of a 16-bit value (R9, R23). -/
def highByte (w : Word) : Byte := w.extractLsb' 8 8

/-- `v[7:0]`, the low byte of a 16-bit value (R9, R23). -/
def lowByte (w : Word) : Byte := w.extractLsb' 0 8

/-- `{h, l} = h * 256 + l` (R9, R23). -/
def joinBytes (h l : Byte) : Word := h ++ l

/-- `sext_16(d)`: the displacement read as two's complement (R10, R87). -/
def sext16 (d : Byte) : Word := d.signExtend 16

/-- `Parity(v)`: true when the number of 1 bits of the byte is even (R10). -/
def parity (v : Byte) : Bool :=
  ((v.getLsbD 0).toNat + (v.getLsbD 1).toNat + (v.getLsbD 2).toNat + (v.getLsbD 3).toNat
    + (v.getLsbD 4).toNat + (v.getLsbD 5).toNat + (v.getLsbD 6).toNat + (v.getLsbD 7).toNat) % 2 == 0

end Sys2Proof
end

