-- ==== Sys2Proof/Syntax.lean ====
section
/-! DEFINITION. The 1268 encodings of the opcode table as one inductive (spec 00_scope.md R2; 30_encoding.md R80, R88 to R92,
R103, R104). One constructor for each text of the table; rows that share a text are one instruction at several encodings
(R104), and the constructor carries the field that tells them apart, so that no bit of an encoding is lost: `y` is
`op[5:3]` of the `ED` duplicates, `z` is `op[2:0]` of `bit b,(ix+d)`, and `ed` says whether `ld (**),hl` or `ld hl,(**)`
stands in the `ED` space. Operand bytes: `n` immediate or port, `d` displacement, `e` relative displacement, `nn` word
(R87). -/

namespace Sys2Proof

inductive Instr where
  | nop -- nop; 00; R268
  | ld_bc_nn (nn : Word) -- ld bc,**; 01 l h; R136
  | ld_mbc_a -- ld (bc),a; 02; R130
  | inc_bc -- inc bc; 03; R177
  | inc_b -- inc b; 04; R169
  | dec_b -- dec b; 05; R171
  | ld_b_n (n : Byte) -- ld b,*; 06 n; R121
  | rlca -- rlca; 07; R341
  | ex_af_af -- ex af,af'; 08; R151
  | add_hl_bc -- add hl,bc; 09; R173
  | ld_a_mbc -- ld a,(bc); 0A; R128
  | dec_bc -- dec bc; 0B; R179
  | inc_c -- inc c; 0C; R169
  | dec_c -- dec c; 0D; R171
  | ld_c_n (n : Byte) -- ld c,*; 0E n; R121
  | rrca -- rrca; 0F; R342
  | djnz_e (e : Byte) -- djnz *; 10 e; R216
  | ld_de_nn (nn : Word) -- ld de,**; 11 l h; R136
  | ld_mde_a -- ld (de),a; 12; R130
  | inc_de -- inc de; 13; R177
  | inc_d -- inc d; 14; R169
  | dec_d -- dec d; 15; R171
  | ld_d_n (n : Byte) -- ld d,*; 16 n; R121
  | rla -- rla; 17; R343
  | jr_e (e : Byte) -- jr *; 18 e; R212
  | add_hl_de -- add hl,de; 19; R173
  | ld_a_mde -- ld a,(de); 1A; R128
  | dec_de -- dec de; 1B; R179
  | inc_e -- inc e; 1C; R169
  | dec_e -- dec e; 1D; R171
  | ld_e_n (n : Byte) -- ld e,*; 1E n; R121
  | rra -- rra; 1F; R344
  | jr_nz_e (e : Byte) -- jr nz,*; 20 e; R213
  | ld_hl_nn (nn : Word) -- ld hl,**; 21 l h; R136
  | ld_mnn_hl (ed : Bool) (nn : Word) -- ld (**),hl; 22 l h, ED 63 l h; R141
  | inc_hl -- inc hl; 23; R177
  | inc_h -- inc h; 24; R169
  | dec_h -- dec h; 25; R171
  | ld_h_n (n : Byte) -- ld h,*; 26 n; R121
  | daa -- daa; 27; R265
  | jr_z_e (e : Byte) -- jr z,*; 28 e; R213
  | add_hl_hl -- add hl,hl; 29; R173
  | ld_hl_mnn (ed : Bool) (nn : Word) -- ld hl,(**); 2A l h, ED 6B l h; R138
  | dec_hl -- dec hl; 2B; R179
  | inc_l -- inc l; 2C; R169
  | dec_l -- dec l; 2D; R171
  | ld_l_n (n : Byte) -- ld l,*; 2E n; R121
  | cpl -- cpl; 2F; R260
  | jr_nc_e (e : Byte) -- jr nc,*; 30 e; R213
  | ld_sp_nn (nn : Word) -- ld sp,**; 31 l h; R136
  | ld_mnn_a (nn : Word) -- ld (**),a; 32 l h; R131
  | inc_sp -- inc sp; 33; R177
  | inc_mhl -- inc (hl); 34; R170
  | dec_mhl -- dec (hl); 35; R172
  | ld_mhl_n (n : Byte) -- ld (hl),*; 36 n; R126
  | scf -- scf; 37; R267
  | jr_c_e (e : Byte) -- jr c,*; 38 e; R213
  | add_hl_sp -- add hl,sp; 39; R173
  | ld_a_mnn (nn : Word) -- ld a,(**); 3A l h; R129
  | dec_sp -- dec sp; 3B; R179
  | inc_a -- inc a; 3C; R169
  | dec_a -- dec a; 3D; R171
  | ld_a_n (n : Byte) -- ld a,*; 3E n; R121
  | ccf -- ccf; 3F; R266
  | ld_b_b -- ld b,b; 40; R120
  | ld_b_c -- ld b,c; 41; R120
  | ld_b_d -- ld b,d; 42; R120
  | ld_b_e -- ld b,e; 43; R120
  | ld_b_h -- ld b,h; 44; R120
  | ld_b_l -- ld b,l; 45; R120
  | ld_b_mhl -- ld b,(hl); 46; R122
  | ld_b_a -- ld b,a; 47; R120
  | ld_c_b -- ld c,b; 48; R120
  | ld_c_c -- ld c,c; 49; R120
  | ld_c_d -- ld c,d; 4A; R120
  | ld_c_e -- ld c,e; 4B; R120
  | ld_c_h -- ld c,h; 4C; R120
  | ld_c_l -- ld c,l; 4D; R120
  | ld_c_mhl -- ld c,(hl); 4E; R122
  | ld_c_a -- ld c,a; 4F; R120
  | ld_d_b -- ld d,b; 50; R120
  | ld_d_c -- ld d,c; 51; R120
  | ld_d_d -- ld d,d; 52; R120
  | ld_d_e -- ld d,e; 53; R120
  | ld_d_h -- ld d,h; 54; R120
  | ld_d_l -- ld d,l; 55; R120
  | ld_d_mhl -- ld d,(hl); 56; R122
  | ld_d_a -- ld d,a; 57; R120
  | ld_e_b -- ld e,b; 58; R120
  | ld_e_c -- ld e,c; 59; R120
  | ld_e_d -- ld e,d; 5A; R120
  | ld_e_e -- ld e,e; 5B; R120
  | ld_e_h -- ld e,h; 5C; R120
  | ld_e_l -- ld e,l; 5D; R120
  | ld_e_mhl -- ld e,(hl); 5E; R122
  | ld_e_a -- ld e,a; 5F; R120
  | ld_h_b -- ld h,b; 60; R120
  | ld_h_c -- ld h,c; 61; R120
  | ld_h_d -- ld h,d; 62; R120
  | ld_h_e -- ld h,e; 63; R120
  | ld_h_h -- ld h,h; 64; R120
  | ld_h_l -- ld h,l; 65; R120
  | ld_h_mhl -- ld h,(hl); 66; R122
  | ld_h_a -- ld h,a; 67; R120
  | ld_l_b -- ld l,b; 68; R120
  | ld_l_c -- ld l,c; 69; R120
  | ld_l_d -- ld l,d; 6A; R120
  | ld_l_e -- ld l,e; 6B; R120
  | ld_l_h -- ld l,h; 6C; R120
  | ld_l_l -- ld l,l; 6D; R120
  | ld_l_mhl -- ld l,(hl); 6E; R122
  | ld_l_a -- ld l,a; 6F; R120
  | ld_mhl_b -- ld (hl),b; 70; R124
  | ld_mhl_c -- ld (hl),c; 71; R124
  | ld_mhl_d -- ld (hl),d; 72; R124
  | ld_mhl_e -- ld (hl),e; 73; R124
  | ld_mhl_h -- ld (hl),h; 74; R124
  | ld_mhl_l -- ld (hl),l; 75; R124
  | halt -- halt; 76; R269
  | ld_mhl_a -- ld (hl),a; 77; R124
  | ld_a_b -- ld a,b; 78; R120
  | ld_a_c -- ld a,c; 79; R120
  | ld_a_d -- ld a,d; 7A; R120
  | ld_a_e -- ld a,e; 7B; R120
  | ld_a_h -- ld a,h; 7C; R120
  | ld_a_l -- ld a,l; 7D; R120
  | ld_a_mhl -- ld a,(hl); 7E; R122
  | ld_a_a -- ld a,a; 7F; R120
  | add_a_b -- add a,b; 80; R165
  | add_a_c -- add a,c; 81; R165
  | add_a_d -- add a,d; 82; R165
  | add_a_e -- add a,e; 83; R165
  | add_a_h -- add a,h; 84; R165
  | add_a_l -- add a,l; 85; R165
  | add_a_mhl -- add a,(hl); 86; R165
  | add_a_a -- add a,a; 87; R165
  | adc_a_b -- adc a,b; 88; R166
  | adc_a_c -- adc a,c; 89; R166
  | adc_a_d -- adc a,d; 8A; R166
  | adc_a_e -- adc a,e; 8B; R166
  | adc_a_h -- adc a,h; 8C; R166
  | adc_a_l -- adc a,l; 8D; R166
  | adc_a_mhl -- adc a,(hl); 8E; R166
  | adc_a_a -- adc a,a; 8F; R166
  | sub_b -- sub b; 90; R167
  | sub_c -- sub c; 91; R167
  | sub_d -- sub d; 92; R167
  | sub_e -- sub e; 93; R167
  | sub_h -- sub h; 94; R167
  | sub_l -- sub l; 95; R167
  | sub_mhl -- sub (hl); 96; R167
  | sub_a -- sub a; 97; R167
  | sbc_a_b -- sbc a,b; 98; R168
  | sbc_a_c -- sbc a,c; 99; R168
  | sbc_a_d -- sbc a,d; 9A; R168
  | sbc_a_e -- sbc a,e; 9B; R168
  | sbc_a_h -- sbc a,h; 9C; R168
  | sbc_a_l -- sbc a,l; 9D; R168
  | sbc_a_mhl -- sbc a,(hl); 9E; R168
  | sbc_a_a -- sbc a,a; 9F; R168
  | and_b -- and b; A0; R262
  | and_c -- and c; A1; R262
  | and_d -- and d; A2; R262
  | and_e -- and e; A3; R262
  | and_h -- and h; A4; R262
  | and_l -- and l; A5; R262
  | and_mhl -- and (hl); A6; R262
  | and_a -- and a; A7; R262
  | xor_b -- xor b; A8; R264
  | xor_c -- xor c; A9; R264
  | xor_d -- xor d; AA; R264
  | xor_e -- xor e; AB; R264
  | xor_h -- xor h; AC; R264
  | xor_l -- xor l; AD; R264
  | xor_mhl -- xor (hl); AE; R264
  | xor_a -- xor a; AF; R264
  | or_b -- or b; B0; R263
  | or_c -- or c; B1; R263
  | or_d -- or d; B2; R263
  | or_e -- or e; B3; R263
  | or_h -- or h; B4; R263
  | or_l -- or l; B5; R263
  | or_mhl -- or (hl); B6; R263
  | or_a -- or a; B7; R263
  | cp_b -- cp b; B8; R240
  | cp_c -- cp c; B9; R240
  | cp_d -- cp d; BA; R240
  | cp_e -- cp e; BB; R240
  | cp_h -- cp h; BC; R240
  | cp_l -- cp l; BD; R240
  | cp_mhl -- cp (hl); BE; R240
  | cp_a -- cp a; BF; R240
  | ret_nz -- ret nz; C0; R220
  | pop_bc -- pop bc; C1; R203
  | jp_nz_nn (nn : Word) -- jp nz,**; C2 l h; R211
  | jp_nn (nn : Word) -- jp **; C3 l h; R210
  | call_nz_nn (nn : Word) -- call nz,**; C4 l h; R218
  | push_bc -- push bc; C5; R201
  | add_a_n (n : Byte) -- add a,*; C6 n; R165
  | rst_00h -- rst 00h; C7; R223
  | ret_z -- ret z; C8; R220
  | ret -- ret; C9; R219
  | jp_z_nn (nn : Word) -- jp z,**; CA l h; R211
  | call_z_nn (nn : Word) -- call z,**; CC l h; R218
  | call_nn (nn : Word) -- call **; CD l h; R217
  | adc_a_n (n : Byte) -- adc a,*; CE n; R166
  | rst_08h -- rst 08h; CF; R223
  | ret_nc -- ret nc; D0; R220
  | pop_de -- pop de; D1; R203
  | jp_nc_nn (nn : Word) -- jp nc,**; D2 l h; R211
  | out_mn_a (n : Byte) -- out (*),a; D3 n; R313
  | call_nc_nn (nn : Word) -- call nc,**; D4 l h; R218
  | push_de -- push de; D5; R201
  | sub_n (n : Byte) -- sub *; D6 n; R167
  | rst_10h -- rst 10h; D7; R223
  | ret_c -- ret c; D8; R220
  | exx -- exx; D9; R152
  | jp_c_nn (nn : Word) -- jp c,**; DA l h; R211
  | in_a_mn (n : Byte) -- in a,(*); DB n; R310
  | call_c_nn (nn : Word) -- call c,**; DC l h; R218
  | sbc_a_n (n : Byte) -- sbc a,*; DE n; R168
  | rst_18h -- rst 18h; DF; R223
  | ret_po -- ret po; E0; R220
  | pop_hl -- pop hl; E1; R203
  | jp_po_nn (nn : Word) -- jp po,**; E2 l h; R211
  | ex_msp_hl -- ex (sp),hl; E3; R153
  | call_po_nn (nn : Word) -- call po,**; E4 l h; R218
  | push_hl -- push hl; E5; R201
  | and_n (n : Byte) -- and *; E6 n; R262
  | rst_20h -- rst 20h; E7; R223
  | ret_pe -- ret pe; E8; R220
  | jp_mhl -- jp (hl); E9; R214
  | jp_pe_nn (nn : Word) -- jp pe,**; EA l h; R211
  | ex_de_hl -- ex de,hl; EB; R150
  | call_pe_nn (nn : Word) -- call pe,**; EC l h; R218
  | xor_n (n : Byte) -- xor *; EE n; R264
  | rst_28h -- rst 28h; EF; R223
  | ret_p -- ret p; F0; R220
  | pop_af -- pop af; F1; R203
  | jp_p_nn (nn : Word) -- jp p,**; F2 l h; R211
  | di -- di; F3; R270
  | call_p_nn (nn : Word) -- call p,**; F4 l h; R218
  | push_af -- push af; F5; R201
  | or_n (n : Byte) -- or *; F6 n; R263
  | rst_30h -- rst 30h; F7; R223
  | ret_m -- ret m; F8; R220
  | ld_sp_hl -- ld sp,hl; F9; R144
  | jp_m_nn (nn : Word) -- jp m,**; FA l h; R211
  | ei -- ei; FB; R271
  | call_m_nn (nn : Word) -- call m,**; FC l h; R218
  | cp_n (n : Byte) -- cp *; FE n; R240
  | rst_38h -- rst 38h; FF; R223
  | rlc_b -- rlc b; CB 00; R345
  | rlc_c -- rlc c; CB 01; R345
  | rlc_d -- rlc d; CB 02; R345
  | rlc_e -- rlc e; CB 03; R345
  | rlc_h -- rlc h; CB 04; R345
  | rlc_l -- rlc l; CB 05; R345
  | rlc_mhl -- rlc (hl); CB 06; R345
  | rlc_a -- rlc a; CB 07; R345
  | rrc_b -- rrc b; CB 08; R346
  | rrc_c -- rrc c; CB 09; R346
  | rrc_d -- rrc d; CB 0A; R346
  | rrc_e -- rrc e; CB 0B; R346
  | rrc_h -- rrc h; CB 0C; R346
  | rrc_l -- rrc l; CB 0D; R346
  | rrc_mhl -- rrc (hl); CB 0E; R346
  | rrc_a -- rrc a; CB 0F; R346
  | rl_b -- rl b; CB 10; R347
  | rl_c -- rl c; CB 11; R347
  | rl_d -- rl d; CB 12; R347
  | rl_e -- rl e; CB 13; R347
  | rl_h -- rl h; CB 14; R347
  | rl_l -- rl l; CB 15; R347
  | rl_mhl -- rl (hl); CB 16; R347
  | rl_a -- rl a; CB 17; R347
  | rr_b -- rr b; CB 18; R348
  | rr_c -- rr c; CB 19; R348
  | rr_d -- rr d; CB 1A; R348
  | rr_e -- rr e; CB 1B; R348
  | rr_h -- rr h; CB 1C; R348
  | rr_l -- rr l; CB 1D; R348
  | rr_mhl -- rr (hl); CB 1E; R348
  | rr_a -- rr a; CB 1F; R348
  | sla_b -- sla b; CB 20; R349
  | sla_c -- sla c; CB 21; R349
  | sla_d -- sla d; CB 22; R349
  | sla_e -- sla e; CB 23; R349
  | sla_h -- sla h; CB 24; R349
  | sla_l -- sla l; CB 25; R349
  | sla_mhl -- sla (hl); CB 26; R349
  | sla_a -- sla a; CB 27; R349
  | sra_b -- sra b; CB 28; R350
  | sra_c -- sra c; CB 29; R350
  | sra_d -- sra d; CB 2A; R350
  | sra_e -- sra e; CB 2B; R350
  | sra_h -- sra h; CB 2C; R350
  | sra_l -- sra l; CB 2D; R350
  | sra_mhl -- sra (hl); CB 2E; R350
  | sra_a -- sra a; CB 2F; R350
  | sll_b -- sll b; CB 30; R351
  | sll_c -- sll c; CB 31; R351
  | sll_d -- sll d; CB 32; R351
  | sll_e -- sll e; CB 33; R351
  | sll_h -- sll h; CB 34; R351
  | sll_l -- sll l; CB 35; R351
  | sll_mhl -- sll (hl); CB 36; R351
  | sll_a -- sll a; CB 37; R351
  | srl_b -- srl b; CB 38; R352
  | srl_c -- srl c; CB 39; R352
  | srl_d -- srl d; CB 3A; R352
  | srl_e -- srl e; CB 3B; R352
  | srl_h -- srl h; CB 3C; R352
  | srl_l -- srl l; CB 3D; R352
  | srl_mhl -- srl (hl); CB 3E; R352
  | srl_a -- srl a; CB 3F; R352
  | bit_0_b -- bit 0,b; CB 40; R290
  | bit_0_c -- bit 0,c; CB 41; R290
  | bit_0_d -- bit 0,d; CB 42; R290
  | bit_0_e -- bit 0,e; CB 43; R290
  | bit_0_h -- bit 0,h; CB 44; R290
  | bit_0_l -- bit 0,l; CB 45; R290
  | bit_0_mhl -- bit 0,(hl); CB 46; R291
  | bit_0_a -- bit 0,a; CB 47; R290
  | bit_1_b -- bit 1,b; CB 48; R290
  | bit_1_c -- bit 1,c; CB 49; R290
  | bit_1_d -- bit 1,d; CB 4A; R290
  | bit_1_e -- bit 1,e; CB 4B; R290
  | bit_1_h -- bit 1,h; CB 4C; R290
  | bit_1_l -- bit 1,l; CB 4D; R290
  | bit_1_mhl -- bit 1,(hl); CB 4E; R291
  | bit_1_a -- bit 1,a; CB 4F; R290
  | bit_2_b -- bit 2,b; CB 50; R290
  | bit_2_c -- bit 2,c; CB 51; R290
  | bit_2_d -- bit 2,d; CB 52; R290
  | bit_2_e -- bit 2,e; CB 53; R290
  | bit_2_h -- bit 2,h; CB 54; R290
  | bit_2_l -- bit 2,l; CB 55; R290
  | bit_2_mhl -- bit 2,(hl); CB 56; R291
  | bit_2_a -- bit 2,a; CB 57; R290
  | bit_3_b -- bit 3,b; CB 58; R290
  | bit_3_c -- bit 3,c; CB 59; R290
  | bit_3_d -- bit 3,d; CB 5A; R290
  | bit_3_e -- bit 3,e; CB 5B; R290
  | bit_3_h -- bit 3,h; CB 5C; R290
  | bit_3_l -- bit 3,l; CB 5D; R290
  | bit_3_mhl -- bit 3,(hl); CB 5E; R291
  | bit_3_a -- bit 3,a; CB 5F; R290
  | bit_4_b -- bit 4,b; CB 60; R290
  | bit_4_c -- bit 4,c; CB 61; R290
  | bit_4_d -- bit 4,d; CB 62; R290
  | bit_4_e -- bit 4,e; CB 63; R290
  | bit_4_h -- bit 4,h; CB 64; R290
  | bit_4_l -- bit 4,l; CB 65; R290
  | bit_4_mhl -- bit 4,(hl); CB 66; R291
  | bit_4_a -- bit 4,a; CB 67; R290
  | bit_5_b -- bit 5,b; CB 68; R290
  | bit_5_c -- bit 5,c; CB 69; R290
  | bit_5_d -- bit 5,d; CB 6A; R290
  | bit_5_e -- bit 5,e; CB 6B; R290
  | bit_5_h -- bit 5,h; CB 6C; R290
  | bit_5_l -- bit 5,l; CB 6D; R290
  | bit_5_mhl -- bit 5,(hl); CB 6E; R291
  | bit_5_a -- bit 5,a; CB 6F; R290
  | bit_6_b -- bit 6,b; CB 70; R290
  | bit_6_c -- bit 6,c; CB 71; R290
  | bit_6_d -- bit 6,d; CB 72; R290
  | bit_6_e -- bit 6,e; CB 73; R290
  | bit_6_h -- bit 6,h; CB 74; R290
  | bit_6_l -- bit 6,l; CB 75; R290
  | bit_6_mhl -- bit 6,(hl); CB 76; R291
  | bit_6_a -- bit 6,a; CB 77; R290
  | bit_7_b -- bit 7,b; CB 78; R290
  | bit_7_c -- bit 7,c; CB 79; R290
  | bit_7_d -- bit 7,d; CB 7A; R290
  | bit_7_e -- bit 7,e; CB 7B; R290
  | bit_7_h -- bit 7,h; CB 7C; R290
  | bit_7_l -- bit 7,l; CB 7D; R290
  | bit_7_mhl -- bit 7,(hl); CB 7E; R291
  | bit_7_a -- bit 7,a; CB 7F; R290
  | res_0_b -- res 0,b; CB 80; R296
  | res_0_c -- res 0,c; CB 81; R296
  | res_0_d -- res 0,d; CB 82; R296
  | res_0_e -- res 0,e; CB 83; R296
  | res_0_h -- res 0,h; CB 84; R296
  | res_0_l -- res 0,l; CB 85; R296
  | res_0_mhl -- res 0,(hl); CB 86; R297
  | res_0_a -- res 0,a; CB 87; R296
  | res_1_b -- res 1,b; CB 88; R296
  | res_1_c -- res 1,c; CB 89; R296
  | res_1_d -- res 1,d; CB 8A; R296
  | res_1_e -- res 1,e; CB 8B; R296
  | res_1_h -- res 1,h; CB 8C; R296
  | res_1_l -- res 1,l; CB 8D; R296
  | res_1_mhl -- res 1,(hl); CB 8E; R297
  | res_1_a -- res 1,a; CB 8F; R296
  | res_2_b -- res 2,b; CB 90; R296
  | res_2_c -- res 2,c; CB 91; R296
  | res_2_d -- res 2,d; CB 92; R296
  | res_2_e -- res 2,e; CB 93; R296
  | res_2_h -- res 2,h; CB 94; R296
  | res_2_l -- res 2,l; CB 95; R296
  | res_2_mhl -- res 2,(hl); CB 96; R297
  | res_2_a -- res 2,a; CB 97; R296
  | res_3_b -- res 3,b; CB 98; R296
  | res_3_c -- res 3,c; CB 99; R296
  | res_3_d -- res 3,d; CB 9A; R296
  | res_3_e -- res 3,e; CB 9B; R296
  | res_3_h -- res 3,h; CB 9C; R296
  | res_3_l -- res 3,l; CB 9D; R296
  | res_3_mhl -- res 3,(hl); CB 9E; R297
  | res_3_a -- res 3,a; CB 9F; R296
  | res_4_b -- res 4,b; CB A0; R296
  | res_4_c -- res 4,c; CB A1; R296
  | res_4_d -- res 4,d; CB A2; R296
  | res_4_e -- res 4,e; CB A3; R296
  | res_4_h -- res 4,h; CB A4; R296
  | res_4_l -- res 4,l; CB A5; R296
  | res_4_mhl -- res 4,(hl); CB A6; R297
  | res_4_a -- res 4,a; CB A7; R296
  | res_5_b -- res 5,b; CB A8; R296
  | res_5_c -- res 5,c; CB A9; R296
  | res_5_d -- res 5,d; CB AA; R296
  | res_5_e -- res 5,e; CB AB; R296
  | res_5_h -- res 5,h; CB AC; R296
  | res_5_l -- res 5,l; CB AD; R296
  | res_5_mhl -- res 5,(hl); CB AE; R297
  | res_5_a -- res 5,a; CB AF; R296
  | res_6_b -- res 6,b; CB B0; R296
  | res_6_c -- res 6,c; CB B1; R296
  | res_6_d -- res 6,d; CB B2; R296
  | res_6_e -- res 6,e; CB B3; R296
  | res_6_h -- res 6,h; CB B4; R296
  | res_6_l -- res 6,l; CB B5; R296
  | res_6_mhl -- res 6,(hl); CB B6; R297
  | res_6_a -- res 6,a; CB B7; R296
  | res_7_b -- res 7,b; CB B8; R296
  | res_7_c -- res 7,c; CB B9; R296
  | res_7_d -- res 7,d; CB BA; R296
  | res_7_e -- res 7,e; CB BB; R296
  | res_7_h -- res 7,h; CB BC; R296
  | res_7_l -- res 7,l; CB BD; R296
  | res_7_mhl -- res 7,(hl); CB BE; R297
  | res_7_a -- res 7,a; CB BF; R296
  | set_0_b -- set 0,b; CB C0; R293
  | set_0_c -- set 0,c; CB C1; R293
  | set_0_d -- set 0,d; CB C2; R293
  | set_0_e -- set 0,e; CB C3; R293
  | set_0_h -- set 0,h; CB C4; R293
  | set_0_l -- set 0,l; CB C5; R293
  | set_0_mhl -- set 0,(hl); CB C6; R294
  | set_0_a -- set 0,a; CB C7; R293
  | set_1_b -- set 1,b; CB C8; R293
  | set_1_c -- set 1,c; CB C9; R293
  | set_1_d -- set 1,d; CB CA; R293
  | set_1_e -- set 1,e; CB CB; R293
  | set_1_h -- set 1,h; CB CC; R293
  | set_1_l -- set 1,l; CB CD; R293
  | set_1_mhl -- set 1,(hl); CB CE; R294
  | set_1_a -- set 1,a; CB CF; R293
  | set_2_b -- set 2,b; CB D0; R293
  | set_2_c -- set 2,c; CB D1; R293
  | set_2_d -- set 2,d; CB D2; R293
  | set_2_e -- set 2,e; CB D3; R293
  | set_2_h -- set 2,h; CB D4; R293
  | set_2_l -- set 2,l; CB D5; R293
  | set_2_mhl -- set 2,(hl); CB D6; R294
  | set_2_a -- set 2,a; CB D7; R293
  | set_3_b -- set 3,b; CB D8; R293
  | set_3_c -- set 3,c; CB D9; R293
  | set_3_d -- set 3,d; CB DA; R293
  | set_3_e -- set 3,e; CB DB; R293
  | set_3_h -- set 3,h; CB DC; R293
  | set_3_l -- set 3,l; CB DD; R293
  | set_3_mhl -- set 3,(hl); CB DE; R294
  | set_3_a -- set 3,a; CB DF; R293
  | set_4_b -- set 4,b; CB E0; R293
  | set_4_c -- set 4,c; CB E1; R293
  | set_4_d -- set 4,d; CB E2; R293
  | set_4_e -- set 4,e; CB E3; R293
  | set_4_h -- set 4,h; CB E4; R293
  | set_4_l -- set 4,l; CB E5; R293
  | set_4_mhl -- set 4,(hl); CB E6; R294
  | set_4_a -- set 4,a; CB E7; R293
  | set_5_b -- set 5,b; CB E8; R293
  | set_5_c -- set 5,c; CB E9; R293
  | set_5_d -- set 5,d; CB EA; R293
  | set_5_e -- set 5,e; CB EB; R293
  | set_5_h -- set 5,h; CB EC; R293
  | set_5_l -- set 5,l; CB ED; R293
  | set_5_mhl -- set 5,(hl); CB EE; R294
  | set_5_a -- set 5,a; CB EF; R293
  | set_6_b -- set 6,b; CB F0; R293
  | set_6_c -- set 6,c; CB F1; R293
  | set_6_d -- set 6,d; CB F2; R293
  | set_6_e -- set 6,e; CB F3; R293
  | set_6_h -- set 6,h; CB F4; R293
  | set_6_l -- set 6,l; CB F5; R293
  | set_6_mhl -- set 6,(hl); CB F6; R294
  | set_6_a -- set 6,a; CB F7; R293
  | set_7_b -- set 7,b; CB F8; R293
  | set_7_c -- set 7,c; CB F9; R293
  | set_7_d -- set 7,d; CB FA; R293
  | set_7_e -- set 7,e; CB FB; R293
  | set_7_h -- set 7,h; CB FC; R293
  | set_7_l -- set 7,l; CB FD; R293
  | set_7_mhl -- set 7,(hl); CB FE; R294
  | set_7_a -- set 7,a; CB FF; R293
  | in_b_mc -- in b,(c); ED 40; R311
  | out_mc_b -- out (c),b; ED 41; R314
  | sbc_hl_bc -- sbc hl,bc; ED 42; R175
  | ld_mnn_bc (nn : Word) -- ld (**),bc; ED 43 l h; R142
  | neg (y : BitVec 3) -- neg; ED 44, ED 4C, ED 54, ED 5C, ED 64, ED 6C, ED 74, ED 7C; R261
  | retn (y : BitVec 3) -- retn; ED 45, ED 55, ED 5D, ED 65, ED 6D, ED 75, ED 7D; R222
  | im_0 (y : BitVec 3) -- im 0; ED 46, ED 66; R272
  | ld_i_a -- ld i,a; ED 47; R134
  | in_c_mc -- in c,(c); ED 48; R311
  | out_mc_c -- out (c),c; ED 49; R314
  | adc_hl_bc -- adc hl,bc; ED 4A; R174
  | ld_bc_mnn (nn : Word) -- ld bc,(**); ED 4B l h; R139
  | reti -- reti; ED 4D; R221
  | im_0_1 (y : BitVec 3) -- im 0/1; ED 4E, ED 6E; R272
  | ld_r_a -- ld r,a; ED 4F; R135
  | in_d_mc -- in d,(c); ED 50; R311
  | out_mc_d -- out (c),d; ED 51; R314
  | sbc_hl_de -- sbc hl,de; ED 52; R175
  | ld_mnn_de (nn : Word) -- ld (**),de; ED 53 l h; R142
  | im_1 (y : BitVec 3) -- im 1; ED 56, ED 76; R272
  | ld_a_i -- ld a,i; ED 57; R132
  | in_e_mc -- in e,(c); ED 58; R311
  | out_mc_e -- out (c),e; ED 59; R314
  | adc_hl_de -- adc hl,de; ED 5A; R174
  | ld_de_mnn (nn : Word) -- ld de,(**); ED 5B l h; R139
  | im_2 (y : BitVec 3) -- im 2; ED 5E, ED 7E; R272
  | ld_a_r -- ld a,r; ED 5F; R133
  | in_h_mc -- in h,(c); ED 60; R311
  | out_mc_h -- out (c),h; ED 61; R314
  | sbc_hl_hl -- sbc hl,hl; ED 62; R175
  | rrd -- rrd; ED 67; R354
  | in_l_mc -- in l,(c); ED 68; R311
  | out_mc_l -- out (c),l; ED 69; R314
  | adc_hl_hl -- adc hl,hl; ED 6A; R174
  | rld -- rld; ED 6F; R353
  | in_mc -- in (c); ED 70; R312
  | out_mc_0 -- out (c),0; ED 71; R315
  | sbc_hl_sp -- sbc hl,sp; ED 72; R175
  | ld_mnn_sp (nn : Word) -- ld (**),sp; ED 73 l h; R142
  | in_a_mc -- in a,(c); ED 78; R311
  | out_mc_a -- out (c),a; ED 79; R314
  | adc_hl_sp -- adc hl,sp; ED 7A; R174
  | ld_sp_mnn (nn : Word) -- ld sp,(**); ED 7B l h; R139
  | ldi -- ldi; ED A0; R242
  | cpi -- cpi; ED A1; R247
  | ini -- ini; ED A2; R317
  | outi -- outi; ED A3; R321
  | ldd -- ldd; ED A8; R244
  | cpd -- cpd; ED A9; R249
  | ind -- ind; ED AA; R319
  | outd -- outd; ED AB; R323
  | ldir -- ldir; ED B0; R243
  | cpir -- cpir; ED B1; R248
  | inir -- inir; ED B2; R318
  | otir -- otir; ED B3; R322
  | lddr -- lddr; ED B8; R245
  | cpdr -- cpdr; ED B9; R250
  | indr -- indr; ED BA; R320
  | otdr -- otdr; ED BB; R324
  | add_ix_bc -- add ix,bc; DD 09; R176
  | add_ix_de -- add ix,de; DD 19; R176
  | ld_ix_nn (nn : Word) -- ld ix,**; DD 21 l h; R137
  | ld_mnn_ix (nn : Word) -- ld (**),ix; DD 22 l h; R143
  | inc_ix -- inc ix; DD 23; R178
  | inc_ixh -- inc ixh; DD 24; R169
  | dec_ixh -- dec ixh; DD 25; R171
  | ld_ixh_n (n : Byte) -- ld ixh,*; DD 26 n; R121
  | add_ix_ix -- add ix,ix; DD 29; R176
  | ld_ix_mnn (nn : Word) -- ld ix,(**); DD 2A l h; R140
  | dec_ix -- dec ix; DD 2B; R180
  | inc_ixl -- inc ixl; DD 2C; R169
  | dec_ixl -- dec ixl; DD 2D; R171
  | ld_ixl_n (n : Byte) -- ld ixl,*; DD 2E n; R121
  | inc_mixd (d : Byte) -- inc (ix+*); DD 34 d; R170
  | dec_mixd (d : Byte) -- dec (ix+*); DD 35 d; R172
  | ld_mixd_n (d : Byte) (n : Byte) -- ld (ix+*),*; DD 36 d n; R127
  | add_ix_sp -- add ix,sp; DD 39; R176
  | ld_b_ixh -- ld b,ixh; DD 44; R120
  | ld_b_ixl -- ld b,ixl; DD 45; R120
  | ld_b_mixd (d : Byte) -- ld b,(ix+*); DD 46 d; R123
  | ld_c_ixh -- ld c,ixh; DD 4C; R120
  | ld_c_ixl -- ld c,ixl; DD 4D; R120
  | ld_c_mixd (d : Byte) -- ld c,(ix+*); DD 4E d; R123
  | ld_d_ixh -- ld d,ixh; DD 54; R120
  | ld_d_ixl -- ld d,ixl; DD 55; R120
  | ld_d_mixd (d : Byte) -- ld d,(ix+*); DD 56 d; R123
  | ld_e_ixh -- ld e,ixh; DD 5C; R120
  | ld_e_ixl -- ld e,ixl; DD 5D; R120
  | ld_e_mixd (d : Byte) -- ld e,(ix+*); DD 5E d; R123
  | ld_ixh_b -- ld ixh,b; DD 60; R120
  | ld_ixh_c -- ld ixh,c; DD 61; R120
  | ld_ixh_d -- ld ixh,d; DD 62; R120
  | ld_ixh_e -- ld ixh,e; DD 63; R120
  | ld_ixh_ixh -- ld ixh,ixh; DD 64; R120
  | ld_ixh_ixl -- ld ixh,ixl; DD 65; R120
  | ld_h_mixd (d : Byte) -- ld h,(ix+*); DD 66 d; R123
  | ld_ixh_a -- ld ixh,a; DD 67; R120
  | ld_ixl_b -- ld ixl,b; DD 68; R120
  | ld_ixl_c -- ld ixl,c; DD 69; R120
  | ld_ixl_d -- ld ixl,d; DD 6A; R120
  | ld_ixl_e -- ld ixl,e; DD 6B; R120
  | ld_ixl_ixh -- ld ixl,ixh; DD 6C; R120
  | ld_ixl_ixl -- ld ixl,ixl; DD 6D; R120
  | ld_l_mixd (d : Byte) -- ld l,(ix+*); DD 6E d; R123
  | ld_ixl_a -- ld ixl,a; DD 6F; R120
  | ld_mixd_b (d : Byte) -- ld (ix+*),b; DD 70 d; R125
  | ld_mixd_c (d : Byte) -- ld (ix+*),c; DD 71 d; R125
  | ld_mixd_d (d : Byte) -- ld (ix+*),d; DD 72 d; R125
  | ld_mixd_e (d : Byte) -- ld (ix+*),e; DD 73 d; R125
  | ld_mixd_h (d : Byte) -- ld (ix+*),h; DD 74 d; R125
  | ld_mixd_l (d : Byte) -- ld (ix+*),l; DD 75 d; R125
  | ld_mixd_a (d : Byte) -- ld (ix+*),a; DD 77 d; R125
  | ld_a_ixh -- ld a,ixh; DD 7C; R120
  | ld_a_ixl -- ld a,ixl; DD 7D; R120
  | ld_a_mixd (d : Byte) -- ld a,(ix+*); DD 7E d; R123
  | add_a_ixh -- add a,ixh; DD 84; R165
  | add_a_ixl -- add a,ixl; DD 85; R165
  | add_a_mixd (d : Byte) -- add a,(ix+*); DD 86 d; R165
  | adc_a_ixh -- adc a,ixh; DD 8C; R166
  | adc_a_ixl -- adc a,ixl; DD 8D; R166
  | adc_a_mixd (d : Byte) -- adc a,(ix+*); DD 8E d; R166
  | sub_ixh -- sub ixh; DD 94; R167
  | sub_ixl -- sub ixl; DD 95; R167
  | sub_mixd (d : Byte) -- sub (ix+*); DD 96 d; R167
  | sbc_a_ixh -- sbc a,ixh; DD 9C; R168
  | sbc_a_ixl -- sbc a,ixl; DD 9D; R168
  | sbc_a_mixd (d : Byte) -- sbc a,(ix+*); DD 9E d; R168
  | and_ixh -- and ixh; DD A4; R262
  | and_ixl -- and ixl; DD A5; R262
  | and_mixd (d : Byte) -- and (ix+*); DD A6 d; R262
  | xor_ixh -- xor ixh; DD AC; R264
  | xor_ixl -- xor ixl; DD AD; R264
  | xor_mixd (d : Byte) -- xor (ix+*); DD AE d; R264
  | or_ixh -- or ixh; DD B4; R263
  | or_ixl -- or ixl; DD B5; R263
  | or_mixd (d : Byte) -- or (ix+*); DD B6 d; R263
  | cp_ixh -- cp ixh; DD BC; R240
  | cp_ixl -- cp ixl; DD BD; R240
  | cp_mixd (d : Byte) -- cp (ix+*); DD BE d; R240
  | pop_ix -- pop ix; DD E1; R204
  | ex_msp_ix -- ex (sp),ix; DD E3; R154
  | push_ix -- push ix; DD E5; R202
  | jp_mix -- jp (ix); DD E9; R215
  | ld_sp_ix -- ld sp,ix; DD F9; R145
  | rlc_mixd_b (d : Byte) -- rlc (ix+*),b; DD CB d 00; R345
  | rlc_mixd_c (d : Byte) -- rlc (ix+*),c; DD CB d 01; R345
  | rlc_mixd_d (d : Byte) -- rlc (ix+*),d; DD CB d 02; R345
  | rlc_mixd_e (d : Byte) -- rlc (ix+*),e; DD CB d 03; R345
  | rlc_mixd_h (d : Byte) -- rlc (ix+*),h; DD CB d 04; R345
  | rlc_mixd_l (d : Byte) -- rlc (ix+*),l; DD CB d 05; R345
  | rlc_mixd (d : Byte) -- rlc (ix+*); DD CB d 06; R345
  | rlc_mixd_a (d : Byte) -- rlc (ix+*),a; DD CB d 07; R345
  | rrc_mixd_b (d : Byte) -- rrc (ix+*),b; DD CB d 08; R346
  | rrc_mixd_c (d : Byte) -- rrc (ix+*),c; DD CB d 09; R346
  | rrc_mixd_d (d : Byte) -- rrc (ix+*),d; DD CB d 0A; R346
  | rrc_mixd_e (d : Byte) -- rrc (ix+*),e; DD CB d 0B; R346
  | rrc_mixd_h (d : Byte) -- rrc (ix+*),h; DD CB d 0C; R346
  | rrc_mixd_l (d : Byte) -- rrc (ix+*),l; DD CB d 0D; R346
  | rrc_mixd (d : Byte) -- rrc (ix+*); DD CB d 0E; R346
  | rrc_mixd_a (d : Byte) -- rrc (ix+*),a; DD CB d 0F; R346
  | rl_mixd_b (d : Byte) -- rl (ix+*),b; DD CB d 10; R347
  | rl_mixd_c (d : Byte) -- rl (ix+*),c; DD CB d 11; R347
  | rl_mixd_d (d : Byte) -- rl (ix+*),d; DD CB d 12; R347
  | rl_mixd_e (d : Byte) -- rl (ix+*),e; DD CB d 13; R347
  | rl_mixd_h (d : Byte) -- rl (ix+*),h; DD CB d 14; R347
  | rl_mixd_l (d : Byte) -- rl (ix+*),l; DD CB d 15; R347
  | rl_mixd (d : Byte) -- rl (ix+*); DD CB d 16; R347
  | rl_mixd_a (d : Byte) -- rl (ix+*),a; DD CB d 17; R347
  | rr_mixd_b (d : Byte) -- rr (ix+*),b; DD CB d 18; R348
  | rr_mixd_c (d : Byte) -- rr (ix+*),c; DD CB d 19; R348
  | rr_mixd_d (d : Byte) -- rr (ix+*),d; DD CB d 1A; R348
  | rr_mixd_e (d : Byte) -- rr (ix+*),e; DD CB d 1B; R348
  | rr_mixd_h (d : Byte) -- rr (ix+*),h; DD CB d 1C; R348
  | rr_mixd_l (d : Byte) -- rr (ix+*),l; DD CB d 1D; R348
  | rr_mixd (d : Byte) -- rr (ix+*); DD CB d 1E; R348
  | rr_mixd_a (d : Byte) -- rr (ix+*),a; DD CB d 1F; R348
  | sla_mixd_b (d : Byte) -- sla (ix+*),b; DD CB d 20; R349
  | sla_mixd_c (d : Byte) -- sla (ix+*),c; DD CB d 21; R349
  | sla_mixd_d (d : Byte) -- sla (ix+*),d; DD CB d 22; R349
  | sla_mixd_e (d : Byte) -- sla (ix+*),e; DD CB d 23; R349
  | sla_mixd_h (d : Byte) -- sla (ix+*),h; DD CB d 24; R349
  | sla_mixd_l (d : Byte) -- sla (ix+*),l; DD CB d 25; R349
  | sla_mixd (d : Byte) -- sla (ix+*); DD CB d 26; R349
  | sla_mixd_a (d : Byte) -- sla (ix+*),a; DD CB d 27; R349
  | sra_mixd_b (d : Byte) -- sra (ix+*),b; DD CB d 28; R350
  | sra_mixd_c (d : Byte) -- sra (ix+*),c; DD CB d 29; R350
  | sra_mixd_d (d : Byte) -- sra (ix+*),d; DD CB d 2A; R350
  | sra_mixd_e (d : Byte) -- sra (ix+*),e; DD CB d 2B; R350
  | sra_mixd_h (d : Byte) -- sra (ix+*),h; DD CB d 2C; R350
  | sra_mixd_l (d : Byte) -- sra (ix+*),l; DD CB d 2D; R350
  | sra_mixd (d : Byte) -- sra (ix+*); DD CB d 2E; R350
  | sra_mixd_a (d : Byte) -- sra (ix+*),a; DD CB d 2F; R350
  | sll_mixd_b (d : Byte) -- sll (ix+*),b; DD CB d 30; R351
  | sll_mixd_c (d : Byte) -- sll (ix+*),c; DD CB d 31; R351
  | sll_mixd_d (d : Byte) -- sll (ix+*),d; DD CB d 32; R351
  | sll_mixd_e (d : Byte) -- sll (ix+*),e; DD CB d 33; R351
  | sll_mixd_h (d : Byte) -- sll (ix+*),h; DD CB d 34; R351
  | sll_mixd_l (d : Byte) -- sll (ix+*),l; DD CB d 35; R351
  | sll_mixd (d : Byte) -- sll (ix+*); DD CB d 36; R351
  | sll_mixd_a (d : Byte) -- sll (ix+*),a; DD CB d 37; R351
  | srl_mixd_b (d : Byte) -- srl (ix+*),b; DD CB d 38; R352
  | srl_mixd_c (d : Byte) -- srl (ix+*),c; DD CB d 39; R352
  | srl_mixd_d (d : Byte) -- srl (ix+*),d; DD CB d 3A; R352
  | srl_mixd_e (d : Byte) -- srl (ix+*),e; DD CB d 3B; R352
  | srl_mixd_h (d : Byte) -- srl (ix+*),h; DD CB d 3C; R352
  | srl_mixd_l (d : Byte) -- srl (ix+*),l; DD CB d 3D; R352
  | srl_mixd (d : Byte) -- srl (ix+*); DD CB d 3E; R352
  | srl_mixd_a (d : Byte) -- srl (ix+*),a; DD CB d 3F; R352
  | bit_0_mixd (d : Byte) (z : BitVec 3) -- bit 0,(ix+*); DD CB d 40 to 47; R292
  | bit_1_mixd (d : Byte) (z : BitVec 3) -- bit 1,(ix+*); DD CB d 48 to 4F; R292
  | bit_2_mixd (d : Byte) (z : BitVec 3) -- bit 2,(ix+*); DD CB d 50 to 57; R292
  | bit_3_mixd (d : Byte) (z : BitVec 3) -- bit 3,(ix+*); DD CB d 58 to 5F; R292
  | bit_4_mixd (d : Byte) (z : BitVec 3) -- bit 4,(ix+*); DD CB d 60 to 67; R292
  | bit_5_mixd (d : Byte) (z : BitVec 3) -- bit 5,(ix+*); DD CB d 68 to 6F; R292
  | bit_6_mixd (d : Byte) (z : BitVec 3) -- bit 6,(ix+*); DD CB d 70 to 77; R292
  | bit_7_mixd (d : Byte) (z : BitVec 3) -- bit 7,(ix+*); DD CB d 78 to 7F; R292
  | res_0_mixd_b (d : Byte) -- res 0,(ix+*),b; DD CB d 80; R298
  | res_0_mixd_c (d : Byte) -- res 0,(ix+*),c; DD CB d 81; R298
  | res_0_mixd_d (d : Byte) -- res 0,(ix+*),d; DD CB d 82; R298
  | res_0_mixd_e (d : Byte) -- res 0,(ix+*),e; DD CB d 83; R298
  | res_0_mixd_h (d : Byte) -- res 0,(ix+*),h; DD CB d 84; R298
  | res_0_mixd_l (d : Byte) -- res 0,(ix+*),l; DD CB d 85; R298
  | res_0_mixd (d : Byte) -- res 0,(ix+*); DD CB d 86; R298
  | res_0_mixd_a (d : Byte) -- res 0,(ix+*),a; DD CB d 87; R298
  | res_1_mixd_b (d : Byte) -- res 1,(ix+*),b; DD CB d 88; R298
  | res_1_mixd_c (d : Byte) -- res 1,(ix+*),c; DD CB d 89; R298
  | res_1_mixd_d (d : Byte) -- res 1,(ix+*),d; DD CB d 8A; R298
  | res_1_mixd_e (d : Byte) -- res 1,(ix+*),e; DD CB d 8B; R298
  | res_1_mixd_h (d : Byte) -- res 1,(ix+*),h; DD CB d 8C; R298
  | res_1_mixd_l (d : Byte) -- res 1,(ix+*),l; DD CB d 8D; R298
  | res_1_mixd (d : Byte) -- res 1,(ix+*); DD CB d 8E; R298
  | res_1_mixd_a (d : Byte) -- res 1,(ix+*),a; DD CB d 8F; R298
  | res_2_mixd_b (d : Byte) -- res 2,(ix+*),b; DD CB d 90; R298
  | res_2_mixd_c (d : Byte) -- res 2,(ix+*),c; DD CB d 91; R298
  | res_2_mixd_d (d : Byte) -- res 2,(ix+*),d; DD CB d 92; R298
  | res_2_mixd_e (d : Byte) -- res 2,(ix+*),e; DD CB d 93; R298
  | res_2_mixd_h (d : Byte) -- res 2,(ix+*),h; DD CB d 94; R298
  | res_2_mixd_l (d : Byte) -- res 2,(ix+*),l; DD CB d 95; R298
  | res_2_mixd (d : Byte) -- res 2,(ix+*); DD CB d 96; R298
  | res_2_mixd_a (d : Byte) -- res 2,(ix+*),a; DD CB d 97; R298
  | res_3_mixd_b (d : Byte) -- res 3,(ix+*),b; DD CB d 98; R298
  | res_3_mixd_c (d : Byte) -- res 3,(ix+*),c; DD CB d 99; R298
  | res_3_mixd_d (d : Byte) -- res 3,(ix+*),d; DD CB d 9A; R298
  | res_3_mixd_e (d : Byte) -- res 3,(ix+*),e; DD CB d 9B; R298
  | res_3_mixd_h (d : Byte) -- res 3,(ix+*),h; DD CB d 9C; R298
  | res_3_mixd_l (d : Byte) -- res 3,(ix+*),l; DD CB d 9D; R298
  | res_3_mixd (d : Byte) -- res 3,(ix+*); DD CB d 9E; R298
  | res_3_mixd_a (d : Byte) -- res 3,(ix+*),a; DD CB d 9F; R298
  | res_4_mixd_b (d : Byte) -- res 4,(ix+*),b; DD CB d A0; R298
  | res_4_mixd_c (d : Byte) -- res 4,(ix+*),c; DD CB d A1; R298
  | res_4_mixd_d (d : Byte) -- res 4,(ix+*),d; DD CB d A2; R298
  | res_4_mixd_e (d : Byte) -- res 4,(ix+*),e; DD CB d A3; R298
  | res_4_mixd_h (d : Byte) -- res 4,(ix+*),h; DD CB d A4; R298
  | res_4_mixd_l (d : Byte) -- res 4,(ix+*),l; DD CB d A5; R298
  | res_4_mixd (d : Byte) -- res 4,(ix+*); DD CB d A6; R298
  | res_4_mixd_a (d : Byte) -- res 4,(ix+*),a; DD CB d A7; R298
  | res_5_mixd_b (d : Byte) -- res 5,(ix+*),b; DD CB d A8; R298
  | res_5_mixd_c (d : Byte) -- res 5,(ix+*),c; DD CB d A9; R298
  | res_5_mixd_d (d : Byte) -- res 5,(ix+*),d; DD CB d AA; R298
  | res_5_mixd_e (d : Byte) -- res 5,(ix+*),e; DD CB d AB; R298
  | res_5_mixd_h (d : Byte) -- res 5,(ix+*),h; DD CB d AC; R298
  | res_5_mixd_l (d : Byte) -- res 5,(ix+*),l; DD CB d AD; R298
  | res_5_mixd (d : Byte) -- res 5,(ix+*); DD CB d AE; R298
  | res_5_mixd_a (d : Byte) -- res 5,(ix+*),a; DD CB d AF; R298
  | res_6_mixd_b (d : Byte) -- res 6,(ix+*),b; DD CB d B0; R298
  | res_6_mixd_c (d : Byte) -- res 6,(ix+*),c; DD CB d B1; R298
  | res_6_mixd_d (d : Byte) -- res 6,(ix+*),d; DD CB d B2; R298
  | res_6_mixd_e (d : Byte) -- res 6,(ix+*),e; DD CB d B3; R298
  | res_6_mixd_h (d : Byte) -- res 6,(ix+*),h; DD CB d B4; R298
  | res_6_mixd_l (d : Byte) -- res 6,(ix+*),l; DD CB d B5; R298
  | res_6_mixd (d : Byte) -- res 6,(ix+*); DD CB d B6; R298
  | res_6_mixd_a (d : Byte) -- res 6,(ix+*),a; DD CB d B7; R298
  | res_7_mixd_b (d : Byte) -- res 7,(ix+*),b; DD CB d B8; R298
  | res_7_mixd_c (d : Byte) -- res 7,(ix+*),c; DD CB d B9; R298
  | res_7_mixd_d (d : Byte) -- res 7,(ix+*),d; DD CB d BA; R298
  | res_7_mixd_e (d : Byte) -- res 7,(ix+*),e; DD CB d BB; R298
  | res_7_mixd_h (d : Byte) -- res 7,(ix+*),h; DD CB d BC; R298
  | res_7_mixd_l (d : Byte) -- res 7,(ix+*),l; DD CB d BD; R298
  | res_7_mixd (d : Byte) -- res 7,(ix+*); DD CB d BE; R298
  | res_7_mixd_a (d : Byte) -- res 7,(ix+*),a; DD CB d BF; R298
  | set_0_mixd_b (d : Byte) -- set 0,(ix+*),b; DD CB d C0; R295
  | set_0_mixd_c (d : Byte) -- set 0,(ix+*),c; DD CB d C1; R295
  | set_0_mixd_d (d : Byte) -- set 0,(ix+*),d; DD CB d C2; R295
  | set_0_mixd_e (d : Byte) -- set 0,(ix+*),e; DD CB d C3; R295
  | set_0_mixd_h (d : Byte) -- set 0,(ix+*),h; DD CB d C4; R295
  | set_0_mixd_l (d : Byte) -- set 0,(ix+*),l; DD CB d C5; R295
  | set_0_mixd (d : Byte) -- set 0,(ix+*); DD CB d C6; R295
  | set_0_mixd_a (d : Byte) -- set 0,(ix+*),a; DD CB d C7; R295
  | set_1_mixd_b (d : Byte) -- set 1,(ix+*),b; DD CB d C8; R295
  | set_1_mixd_c (d : Byte) -- set 1,(ix+*),c; DD CB d C9; R295
  | set_1_mixd_d (d : Byte) -- set 1,(ix+*),d; DD CB d CA; R295
  | set_1_mixd_e (d : Byte) -- set 1,(ix+*),e; DD CB d CB; R295
  | set_1_mixd_h (d : Byte) -- set 1,(ix+*),h; DD CB d CC; R295
  | set_1_mixd_l (d : Byte) -- set 1,(ix+*),l; DD CB d CD; R295
  | set_1_mixd (d : Byte) -- set 1,(ix+*); DD CB d CE; R295
  | set_1_mixd_a (d : Byte) -- set 1,(ix+*),a; DD CB d CF; R295
  | set_2_mixd_b (d : Byte) -- set 2,(ix+*),b; DD CB d D0; R295
  | set_2_mixd_c (d : Byte) -- set 2,(ix+*),c; DD CB d D1; R295
  | set_2_mixd_d (d : Byte) -- set 2,(ix+*),d; DD CB d D2; R295
  | set_2_mixd_e (d : Byte) -- set 2,(ix+*),e; DD CB d D3; R295
  | set_2_mixd_h (d : Byte) -- set 2,(ix+*),h; DD CB d D4; R295
  | set_2_mixd_l (d : Byte) -- set 2,(ix+*),l; DD CB d D5; R295
  | set_2_mixd (d : Byte) -- set 2,(ix+*); DD CB d D6; R295
  | set_2_mixd_a (d : Byte) -- set 2,(ix+*),a; DD CB d D7; R295
  | set_3_mixd_b (d : Byte) -- set 3,(ix+*),b; DD CB d D8; R295
  | set_3_mixd_c (d : Byte) -- set 3,(ix+*),c; DD CB d D9; R295
  | set_3_mixd_d (d : Byte) -- set 3,(ix+*),d; DD CB d DA; R295
  | set_3_mixd_e (d : Byte) -- set 3,(ix+*),e; DD CB d DB; R295
  | set_3_mixd_h (d : Byte) -- set 3,(ix+*),h; DD CB d DC; R295
  | set_3_mixd_l (d : Byte) -- set 3,(ix+*),l; DD CB d DD; R295
  | set_3_mixd (d : Byte) -- set 3,(ix+*); DD CB d DE; R295
  | set_3_mixd_a (d : Byte) -- set 3,(ix+*),a; DD CB d DF; R295
  | set_4_mixd_b (d : Byte) -- set 4,(ix+*),b; DD CB d E0; R295
  | set_4_mixd_c (d : Byte) -- set 4,(ix+*),c; DD CB d E1; R295
  | set_4_mixd_d (d : Byte) -- set 4,(ix+*),d; DD CB d E2; R295
  | set_4_mixd_e (d : Byte) -- set 4,(ix+*),e; DD CB d E3; R295
  | set_4_mixd_h (d : Byte) -- set 4,(ix+*),h; DD CB d E4; R295
  | set_4_mixd_l (d : Byte) -- set 4,(ix+*),l; DD CB d E5; R295
  | set_4_mixd (d : Byte) -- set 4,(ix+*); DD CB d E6; R295
  | set_4_mixd_a (d : Byte) -- set 4,(ix+*),a; DD CB d E7; R295
  | set_5_mixd_b (d : Byte) -- set 5,(ix+*),b; DD CB d E8; R295
  | set_5_mixd_c (d : Byte) -- set 5,(ix+*),c; DD CB d E9; R295
  | set_5_mixd_d (d : Byte) -- set 5,(ix+*),d; DD CB d EA; R295
  | set_5_mixd_e (d : Byte) -- set 5,(ix+*),e; DD CB d EB; R295
  | set_5_mixd_h (d : Byte) -- set 5,(ix+*),h; DD CB d EC; R295
  | set_5_mixd_l (d : Byte) -- set 5,(ix+*),l; DD CB d ED; R295
  | set_5_mixd (d : Byte) -- set 5,(ix+*); DD CB d EE; R295
  | set_5_mixd_a (d : Byte) -- set 5,(ix+*),a; DD CB d EF; R295
  | set_6_mixd_b (d : Byte) -- set 6,(ix+*),b; DD CB d F0; R295
  | set_6_mixd_c (d : Byte) -- set 6,(ix+*),c; DD CB d F1; R295
  | set_6_mixd_d (d : Byte) -- set 6,(ix+*),d; DD CB d F2; R295
  | set_6_mixd_e (d : Byte) -- set 6,(ix+*),e; DD CB d F3; R295
  | set_6_mixd_h (d : Byte) -- set 6,(ix+*),h; DD CB d F4; R295
  | set_6_mixd_l (d : Byte) -- set 6,(ix+*),l; DD CB d F5; R295
  | set_6_mixd (d : Byte) -- set 6,(ix+*); DD CB d F6; R295
  | set_6_mixd_a (d : Byte) -- set 6,(ix+*),a; DD CB d F7; R295
  | set_7_mixd_b (d : Byte) -- set 7,(ix+*),b; DD CB d F8; R295
  | set_7_mixd_c (d : Byte) -- set 7,(ix+*),c; DD CB d F9; R295
  | set_7_mixd_d (d : Byte) -- set 7,(ix+*),d; DD CB d FA; R295
  | set_7_mixd_e (d : Byte) -- set 7,(ix+*),e; DD CB d FB; R295
  | set_7_mixd_h (d : Byte) -- set 7,(ix+*),h; DD CB d FC; R295
  | set_7_mixd_l (d : Byte) -- set 7,(ix+*),l; DD CB d FD; R295
  | set_7_mixd (d : Byte) -- set 7,(ix+*); DD CB d FE; R295
  | set_7_mixd_a (d : Byte) -- set 7,(ix+*),a; DD CB d FF; R295
  | add_iy_bc -- add iy,bc; FD 09; R176
  | add_iy_de -- add iy,de; FD 19; R176
  | ld_iy_nn (nn : Word) -- ld iy,**; FD 21 l h; R137
  | ld_mnn_iy (nn : Word) -- ld (**),iy; FD 22 l h; R143
  | inc_iy -- inc iy; FD 23; R178
  | inc_iyh -- inc iyh; FD 24; R169
  | dec_iyh -- dec iyh; FD 25; R171
  | ld_iyh_n (n : Byte) -- ld iyh,*; FD 26 n; R121
  | add_iy_iy -- add iy,iy; FD 29; R176
  | ld_iy_mnn (nn : Word) -- ld iy,(**); FD 2A l h; R140
  | dec_iy -- dec iy; FD 2B; R180
  | inc_iyl -- inc iyl; FD 2C; R169
  | dec_iyl -- dec iyl; FD 2D; R171
  | ld_iyl_n (n : Byte) -- ld iyl,*; FD 2E n; R121
  | inc_miyd (d : Byte) -- inc (iy+*); FD 34 d; R170
  | dec_miyd (d : Byte) -- dec (iy+*); FD 35 d; R172
  | ld_miyd_n (d : Byte) (n : Byte) -- ld (iy+*),*; FD 36 d n; R127
  | add_iy_sp -- add iy,sp; FD 39; R176
  | ld_b_iyh -- ld b,iyh; FD 44; R120
  | ld_b_iyl -- ld b,iyl; FD 45; R120
  | ld_b_miyd (d : Byte) -- ld b,(iy+*); FD 46 d; R123
  | ld_c_iyh -- ld c,iyh; FD 4C; R120
  | ld_c_iyl -- ld c,iyl; FD 4D; R120
  | ld_c_miyd (d : Byte) -- ld c,(iy+*); FD 4E d; R123
  | ld_d_iyh -- ld d,iyh; FD 54; R120
  | ld_d_iyl -- ld d,iyl; FD 55; R120
  | ld_d_miyd (d : Byte) -- ld d,(iy+*); FD 56 d; R123
  | ld_e_iyh -- ld e,iyh; FD 5C; R120
  | ld_e_iyl -- ld e,iyl; FD 5D; R120
  | ld_e_miyd (d : Byte) -- ld e,(iy+*); FD 5E d; R123
  | ld_iyh_b -- ld iyh,b; FD 60; R120
  | ld_iyh_c -- ld iyh,c; FD 61; R120
  | ld_iyh_d -- ld iyh,d; FD 62; R120
  | ld_iyh_e -- ld iyh,e; FD 63; R120
  | ld_iyh_iyh -- ld iyh,iyh; FD 64; R120
  | ld_iyh_iyl -- ld iyh,iyl; FD 65; R120
  | ld_h_miyd (d : Byte) -- ld h,(iy+*); FD 66 d; R123
  | ld_iyh_a -- ld iyh,a; FD 67; R120
  | ld_iyl_b -- ld iyl,b; FD 68; R120
  | ld_iyl_c -- ld iyl,c; FD 69; R120
  | ld_iyl_d -- ld iyl,d; FD 6A; R120
  | ld_iyl_e -- ld iyl,e; FD 6B; R120
  | ld_iyl_iyh -- ld iyl,iyh; FD 6C; R120
  | ld_iyl_iyl -- ld iyl,iyl; FD 6D; R120
  | ld_l_miyd (d : Byte) -- ld l,(iy+*); FD 6E d; R123
  | ld_iyl_a -- ld iyl,a; FD 6F; R120
  | ld_miyd_b (d : Byte) -- ld (iy+*),b; FD 70 d; R125
  | ld_miyd_c (d : Byte) -- ld (iy+*),c; FD 71 d; R125
  | ld_miyd_d (d : Byte) -- ld (iy+*),d; FD 72 d; R125
  | ld_miyd_e (d : Byte) -- ld (iy+*),e; FD 73 d; R125
  | ld_miyd_h (d : Byte) -- ld (iy+*),h; FD 74 d; R125
  | ld_miyd_l (d : Byte) -- ld (iy+*),l; FD 75 d; R125
  | ld_miyd_a (d : Byte) -- ld (iy+*),a; FD 77 d; R125
  | ld_a_iyh -- ld a,iyh; FD 7C; R120
  | ld_a_iyl -- ld a,iyl; FD 7D; R120
  | ld_a_miyd (d : Byte) -- ld a,(iy+*); FD 7E d; R123
  | add_a_iyh -- add a,iyh; FD 84; R165
  | add_a_iyl -- add a,iyl; FD 85; R165
  | add_a_miyd (d : Byte) -- add a,(iy+*); FD 86 d; R165
  | adc_a_iyh -- adc a,iyh; FD 8C; R166
  | adc_a_iyl -- adc a,iyl; FD 8D; R166
  | adc_a_miyd (d : Byte) -- adc a,(iy+*); FD 8E d; R166
  | sub_iyh -- sub iyh; FD 94; R167
  | sub_iyl -- sub iyl; FD 95; R167
  | sub_miyd (d : Byte) -- sub (iy+*); FD 96 d; R167
  | sbc_a_iyh -- sbc a,iyh; FD 9C; R168
  | sbc_a_iyl -- sbc a,iyl; FD 9D; R168
  | sbc_a_miyd (d : Byte) -- sbc a,(iy+*); FD 9E d; R168
  | and_iyh -- and iyh; FD A4; R262
  | and_iyl -- and iyl; FD A5; R262
  | and_miyd (d : Byte) -- and (iy+*); FD A6 d; R262
  | xor_iyh -- xor iyh; FD AC; R264
  | xor_iyl -- xor iyl; FD AD; R264
  | xor_miyd (d : Byte) -- xor (iy+*); FD AE d; R264
  | or_iyh -- or iyh; FD B4; R263
  | or_iyl -- or iyl; FD B5; R263
  | or_miyd (d : Byte) -- or (iy+*); FD B6 d; R263
  | cp_iyh -- cp iyh; FD BC; R240
  | cp_iyl -- cp iyl; FD BD; R240
  | cp_miyd (d : Byte) -- cp (iy+*); FD BE d; R240
  | pop_iy -- pop iy; FD E1; R204
  | ex_msp_iy -- ex (sp),iy; FD E3; R154
  | push_iy -- push iy; FD E5; R202
  | jp_miy -- jp (iy); FD E9; R215
  | ld_sp_iy -- ld sp,iy; FD F9; R145
  | rlc_miyd_b (d : Byte) -- rlc (iy+*),b; FD CB d 00; R345
  | rlc_miyd_c (d : Byte) -- rlc (iy+*),c; FD CB d 01; R345
  | rlc_miyd_d (d : Byte) -- rlc (iy+*),d; FD CB d 02; R345
  | rlc_miyd_e (d : Byte) -- rlc (iy+*),e; FD CB d 03; R345
  | rlc_miyd_h (d : Byte) -- rlc (iy+*),h; FD CB d 04; R345
  | rlc_miyd_l (d : Byte) -- rlc (iy+*),l; FD CB d 05; R345
  | rlc_miyd (d : Byte) -- rlc (iy+*); FD CB d 06; R345
  | rlc_miyd_a (d : Byte) -- rlc (iy+*),a; FD CB d 07; R345
  | rrc_miyd_b (d : Byte) -- rrc (iy+*),b; FD CB d 08; R346
  | rrc_miyd_c (d : Byte) -- rrc (iy+*),c; FD CB d 09; R346
  | rrc_miyd_d (d : Byte) -- rrc (iy+*),d; FD CB d 0A; R346
  | rrc_miyd_e (d : Byte) -- rrc (iy+*),e; FD CB d 0B; R346
  | rrc_miyd_h (d : Byte) -- rrc (iy+*),h; FD CB d 0C; R346
  | rrc_miyd_l (d : Byte) -- rrc (iy+*),l; FD CB d 0D; R346
  | rrc_miyd (d : Byte) -- rrc (iy+*); FD CB d 0E; R346
  | rrc_miyd_a (d : Byte) -- rrc (iy+*),a; FD CB d 0F; R346
  | rl_miyd_b (d : Byte) -- rl (iy+*),b; FD CB d 10; R347
  | rl_miyd_c (d : Byte) -- rl (iy+*),c; FD CB d 11; R347
  | rl_miyd_d (d : Byte) -- rl (iy+*),d; FD CB d 12; R347
  | rl_miyd_e (d : Byte) -- rl (iy+*),e; FD CB d 13; R347
  | rl_miyd_h (d : Byte) -- rl (iy+*),h; FD CB d 14; R347
  | rl_miyd_l (d : Byte) -- rl (iy+*),l; FD CB d 15; R347
  | rl_miyd (d : Byte) -- rl (iy+*); FD CB d 16; R347
  | rl_miyd_a (d : Byte) -- rl (iy+*),a; FD CB d 17; R347
  | rr_miyd_b (d : Byte) -- rr (iy+*),b; FD CB d 18; R348
  | rr_miyd_c (d : Byte) -- rr (iy+*),c; FD CB d 19; R348
  | rr_miyd_d (d : Byte) -- rr (iy+*),d; FD CB d 1A; R348
  | rr_miyd_e (d : Byte) -- rr (iy+*),e; FD CB d 1B; R348
  | rr_miyd_h (d : Byte) -- rr (iy+*),h; FD CB d 1C; R348
  | rr_miyd_l (d : Byte) -- rr (iy+*),l; FD CB d 1D; R348
  | rr_miyd (d : Byte) -- rr (iy+*); FD CB d 1E; R348
  | rr_miyd_a (d : Byte) -- rr (iy+*),a; FD CB d 1F; R348
  | sla_miyd_b (d : Byte) -- sla (iy+*),b; FD CB d 20; R349
  | sla_miyd_c (d : Byte) -- sla (iy+*),c; FD CB d 21; R349
  | sla_miyd_d (d : Byte) -- sla (iy+*),d; FD CB d 22; R349
  | sla_miyd_e (d : Byte) -- sla (iy+*),e; FD CB d 23; R349
  | sla_miyd_h (d : Byte) -- sla (iy+*),h; FD CB d 24; R349
  | sla_miyd_l (d : Byte) -- sla (iy+*),l; FD CB d 25; R349
  | sla_miyd (d : Byte) -- sla (iy+*); FD CB d 26; R349
  | sla_miyd_a (d : Byte) -- sla (iy+*),a; FD CB d 27; R349
  | sra_miyd_b (d : Byte) -- sra (iy+*),b; FD CB d 28; R350
  | sra_miyd_c (d : Byte) -- sra (iy+*),c; FD CB d 29; R350
  | sra_miyd_d (d : Byte) -- sra (iy+*),d; FD CB d 2A; R350
  | sra_miyd_e (d : Byte) -- sra (iy+*),e; FD CB d 2B; R350
  | sra_miyd_h (d : Byte) -- sra (iy+*),h; FD CB d 2C; R350
  | sra_miyd_l (d : Byte) -- sra (iy+*),l; FD CB d 2D; R350
  | sra_miyd (d : Byte) -- sra (iy+*); FD CB d 2E; R350
  | sra_miyd_a (d : Byte) -- sra (iy+*),a; FD CB d 2F; R350
  | sll_miyd_b (d : Byte) -- sll (iy+*),b; FD CB d 30; R351
  | sll_miyd_c (d : Byte) -- sll (iy+*),c; FD CB d 31; R351
  | sll_miyd_d (d : Byte) -- sll (iy+*),d; FD CB d 32; R351
  | sll_miyd_e (d : Byte) -- sll (iy+*),e; FD CB d 33; R351
  | sll_miyd_h (d : Byte) -- sll (iy+*),h; FD CB d 34; R351
  | sll_miyd_l (d : Byte) -- sll (iy+*),l; FD CB d 35; R351
  | sll_miyd (d : Byte) -- sll (iy+*); FD CB d 36; R351
  | sll_miyd_a (d : Byte) -- sll (iy+*),a; FD CB d 37; R351
  | srl_miyd_b (d : Byte) -- srl (iy+*),b; FD CB d 38; R352
  | srl_miyd_c (d : Byte) -- srl (iy+*),c; FD CB d 39; R352
  | srl_miyd_d (d : Byte) -- srl (iy+*),d; FD CB d 3A; R352
  | srl_miyd_e (d : Byte) -- srl (iy+*),e; FD CB d 3B; R352
  | srl_miyd_h (d : Byte) -- srl (iy+*),h; FD CB d 3C; R352
  | srl_miyd_l (d : Byte) -- srl (iy+*),l; FD CB d 3D; R352
  | srl_miyd (d : Byte) -- srl (iy+*); FD CB d 3E; R352
  | srl_miyd_a (d : Byte) -- srl (iy+*),a; FD CB d 3F; R352
  | bit_0_miyd (d : Byte) (z : BitVec 3) -- bit 0,(iy+*); FD CB d 40 to 47; R292
  | bit_1_miyd (d : Byte) (z : BitVec 3) -- bit 1,(iy+*); FD CB d 48 to 4F; R292
  | bit_2_miyd (d : Byte) (z : BitVec 3) -- bit 2,(iy+*); FD CB d 50 to 57; R292
  | bit_3_miyd (d : Byte) (z : BitVec 3) -- bit 3,(iy+*); FD CB d 58 to 5F; R292
  | bit_4_miyd (d : Byte) (z : BitVec 3) -- bit 4,(iy+*); FD CB d 60 to 67; R292
  | bit_5_miyd (d : Byte) (z : BitVec 3) -- bit 5,(iy+*); FD CB d 68 to 6F; R292
  | bit_6_miyd (d : Byte) (z : BitVec 3) -- bit 6,(iy+*); FD CB d 70 to 77; R292
  | bit_7_miyd (d : Byte) (z : BitVec 3) -- bit 7,(iy+*); FD CB d 78 to 7F; R292
  | res_0_miyd_b (d : Byte) -- res 0,(iy+*),b; FD CB d 80; R298
  | res_0_miyd_c (d : Byte) -- res 0,(iy+*),c; FD CB d 81; R298
  | res_0_miyd_d (d : Byte) -- res 0,(iy+*),d; FD CB d 82; R298
  | res_0_miyd_e (d : Byte) -- res 0,(iy+*),e; FD CB d 83; R298
  | res_0_miyd_h (d : Byte) -- res 0,(iy+*),h; FD CB d 84; R298
  | res_0_miyd_l (d : Byte) -- res 0,(iy+*),l; FD CB d 85; R298
  | res_0_miyd (d : Byte) -- res 0,(iy+*); FD CB d 86; R298
  | res_0_miyd_a (d : Byte) -- res 0,(iy+*),a; FD CB d 87; R298
  | res_1_miyd_b (d : Byte) -- res 1,(iy+*),b; FD CB d 88; R298
  | res_1_miyd_c (d : Byte) -- res 1,(iy+*),c; FD CB d 89; R298
  | res_1_miyd_d (d : Byte) -- res 1,(iy+*),d; FD CB d 8A; R298
  | res_1_miyd_e (d : Byte) -- res 1,(iy+*),e; FD CB d 8B; R298
  | res_1_miyd_h (d : Byte) -- res 1,(iy+*),h; FD CB d 8C; R298
  | res_1_miyd_l (d : Byte) -- res 1,(iy+*),l; FD CB d 8D; R298
  | res_1_miyd (d : Byte) -- res 1,(iy+*); FD CB d 8E; R298
  | res_1_miyd_a (d : Byte) -- res 1,(iy+*),a; FD CB d 8F; R298
  | res_2_miyd_b (d : Byte) -- res 2,(iy+*),b; FD CB d 90; R298
  | res_2_miyd_c (d : Byte) -- res 2,(iy+*),c; FD CB d 91; R298
  | res_2_miyd_d (d : Byte) -- res 2,(iy+*),d; FD CB d 92; R298
  | res_2_miyd_e (d : Byte) -- res 2,(iy+*),e; FD CB d 93; R298
  | res_2_miyd_h (d : Byte) -- res 2,(iy+*),h; FD CB d 94; R298
  | res_2_miyd_l (d : Byte) -- res 2,(iy+*),l; FD CB d 95; R298
  | res_2_miyd (d : Byte) -- res 2,(iy+*); FD CB d 96; R298
  | res_2_miyd_a (d : Byte) -- res 2,(iy+*),a; FD CB d 97; R298
  | res_3_miyd_b (d : Byte) -- res 3,(iy+*),b; FD CB d 98; R298
  | res_3_miyd_c (d : Byte) -- res 3,(iy+*),c; FD CB d 99; R298
  | res_3_miyd_d (d : Byte) -- res 3,(iy+*),d; FD CB d 9A; R298
  | res_3_miyd_e (d : Byte) -- res 3,(iy+*),e; FD CB d 9B; R298
  | res_3_miyd_h (d : Byte) -- res 3,(iy+*),h; FD CB d 9C; R298
  | res_3_miyd_l (d : Byte) -- res 3,(iy+*),l; FD CB d 9D; R298
  | res_3_miyd (d : Byte) -- res 3,(iy+*); FD CB d 9E; R298
  | res_3_miyd_a (d : Byte) -- res 3,(iy+*),a; FD CB d 9F; R298
  | res_4_miyd_b (d : Byte) -- res 4,(iy+*),b; FD CB d A0; R298
  | res_4_miyd_c (d : Byte) -- res 4,(iy+*),c; FD CB d A1; R298
  | res_4_miyd_d (d : Byte) -- res 4,(iy+*),d; FD CB d A2; R298
  | res_4_miyd_e (d : Byte) -- res 4,(iy+*),e; FD CB d A3; R298
  | res_4_miyd_h (d : Byte) -- res 4,(iy+*),h; FD CB d A4; R298
  | res_4_miyd_l (d : Byte) -- res 4,(iy+*),l; FD CB d A5; R298
  | res_4_miyd (d : Byte) -- res 4,(iy+*); FD CB d A6; R298
  | res_4_miyd_a (d : Byte) -- res 4,(iy+*),a; FD CB d A7; R298
  | res_5_miyd_b (d : Byte) -- res 5,(iy+*),b; FD CB d A8; R298
  | res_5_miyd_c (d : Byte) -- res 5,(iy+*),c; FD CB d A9; R298
  | res_5_miyd_d (d : Byte) -- res 5,(iy+*),d; FD CB d AA; R298
  | res_5_miyd_e (d : Byte) -- res 5,(iy+*),e; FD CB d AB; R298
  | res_5_miyd_h (d : Byte) -- res 5,(iy+*),h; FD CB d AC; R298
  | res_5_miyd_l (d : Byte) -- res 5,(iy+*),l; FD CB d AD; R298
  | res_5_miyd (d : Byte) -- res 5,(iy+*); FD CB d AE; R298
  | res_5_miyd_a (d : Byte) -- res 5,(iy+*),a; FD CB d AF; R298
  | res_6_miyd_b (d : Byte) -- res 6,(iy+*),b; FD CB d B0; R298
  | res_6_miyd_c (d : Byte) -- res 6,(iy+*),c; FD CB d B1; R298
  | res_6_miyd_d (d : Byte) -- res 6,(iy+*),d; FD CB d B2; R298
  | res_6_miyd_e (d : Byte) -- res 6,(iy+*),e; FD CB d B3; R298
  | res_6_miyd_h (d : Byte) -- res 6,(iy+*),h; FD CB d B4; R298
  | res_6_miyd_l (d : Byte) -- res 6,(iy+*),l; FD CB d B5; R298
  | res_6_miyd (d : Byte) -- res 6,(iy+*); FD CB d B6; R298
  | res_6_miyd_a (d : Byte) -- res 6,(iy+*),a; FD CB d B7; R298
  | res_7_miyd_b (d : Byte) -- res 7,(iy+*),b; FD CB d B8; R298
  | res_7_miyd_c (d : Byte) -- res 7,(iy+*),c; FD CB d B9; R298
  | res_7_miyd_d (d : Byte) -- res 7,(iy+*),d; FD CB d BA; R298
  | res_7_miyd_e (d : Byte) -- res 7,(iy+*),e; FD CB d BB; R298
  | res_7_miyd_h (d : Byte) -- res 7,(iy+*),h; FD CB d BC; R298
  | res_7_miyd_l (d : Byte) -- res 7,(iy+*),l; FD CB d BD; R298
  | res_7_miyd (d : Byte) -- res 7,(iy+*); FD CB d BE; R298
  | res_7_miyd_a (d : Byte) -- res 7,(iy+*),a; FD CB d BF; R298
  | set_0_miyd_b (d : Byte) -- set 0,(iy+*),b; FD CB d C0; R295
  | set_0_miyd_c (d : Byte) -- set 0,(iy+*),c; FD CB d C1; R295
  | set_0_miyd_d (d : Byte) -- set 0,(iy+*),d; FD CB d C2; R295
  | set_0_miyd_e (d : Byte) -- set 0,(iy+*),e; FD CB d C3; R295
  | set_0_miyd_h (d : Byte) -- set 0,(iy+*),h; FD CB d C4; R295
  | set_0_miyd_l (d : Byte) -- set 0,(iy+*),l; FD CB d C5; R295
  | set_0_miyd (d : Byte) -- set 0,(iy+*); FD CB d C6; R295
  | set_0_miyd_a (d : Byte) -- set 0,(iy+*),a; FD CB d C7; R295
  | set_1_miyd_b (d : Byte) -- set 1,(iy+*),b; FD CB d C8; R295
  | set_1_miyd_c (d : Byte) -- set 1,(iy+*),c; FD CB d C9; R295
  | set_1_miyd_d (d : Byte) -- set 1,(iy+*),d; FD CB d CA; R295
  | set_1_miyd_e (d : Byte) -- set 1,(iy+*),e; FD CB d CB; R295
  | set_1_miyd_h (d : Byte) -- set 1,(iy+*),h; FD CB d CC; R295
  | set_1_miyd_l (d : Byte) -- set 1,(iy+*),l; FD CB d CD; R295
  | set_1_miyd (d : Byte) -- set 1,(iy+*); FD CB d CE; R295
  | set_1_miyd_a (d : Byte) -- set 1,(iy+*),a; FD CB d CF; R295
  | set_2_miyd_b (d : Byte) -- set 2,(iy+*),b; FD CB d D0; R295
  | set_2_miyd_c (d : Byte) -- set 2,(iy+*),c; FD CB d D1; R295
  | set_2_miyd_d (d : Byte) -- set 2,(iy+*),d; FD CB d D2; R295
  | set_2_miyd_e (d : Byte) -- set 2,(iy+*),e; FD CB d D3; R295
  | set_2_miyd_h (d : Byte) -- set 2,(iy+*),h; FD CB d D4; R295
  | set_2_miyd_l (d : Byte) -- set 2,(iy+*),l; FD CB d D5; R295
  | set_2_miyd (d : Byte) -- set 2,(iy+*); FD CB d D6; R295
  | set_2_miyd_a (d : Byte) -- set 2,(iy+*),a; FD CB d D7; R295
  | set_3_miyd_b (d : Byte) -- set 3,(iy+*),b; FD CB d D8; R295
  | set_3_miyd_c (d : Byte) -- set 3,(iy+*),c; FD CB d D9; R295
  | set_3_miyd_d (d : Byte) -- set 3,(iy+*),d; FD CB d DA; R295
  | set_3_miyd_e (d : Byte) -- set 3,(iy+*),e; FD CB d DB; R295
  | set_3_miyd_h (d : Byte) -- set 3,(iy+*),h; FD CB d DC; R295
  | set_3_miyd_l (d : Byte) -- set 3,(iy+*),l; FD CB d DD; R295
  | set_3_miyd (d : Byte) -- set 3,(iy+*); FD CB d DE; R295
  | set_3_miyd_a (d : Byte) -- set 3,(iy+*),a; FD CB d DF; R295
  | set_4_miyd_b (d : Byte) -- set 4,(iy+*),b; FD CB d E0; R295
  | set_4_miyd_c (d : Byte) -- set 4,(iy+*),c; FD CB d E1; R295
  | set_4_miyd_d (d : Byte) -- set 4,(iy+*),d; FD CB d E2; R295
  | set_4_miyd_e (d : Byte) -- set 4,(iy+*),e; FD CB d E3; R295
  | set_4_miyd_h (d : Byte) -- set 4,(iy+*),h; FD CB d E4; R295
  | set_4_miyd_l (d : Byte) -- set 4,(iy+*),l; FD CB d E5; R295
  | set_4_miyd (d : Byte) -- set 4,(iy+*); FD CB d E6; R295
  | set_4_miyd_a (d : Byte) -- set 4,(iy+*),a; FD CB d E7; R295
  | set_5_miyd_b (d : Byte) -- set 5,(iy+*),b; FD CB d E8; R295
  | set_5_miyd_c (d : Byte) -- set 5,(iy+*),c; FD CB d E9; R295
  | set_5_miyd_d (d : Byte) -- set 5,(iy+*),d; FD CB d EA; R295
  | set_5_miyd_e (d : Byte) -- set 5,(iy+*),e; FD CB d EB; R295
  | set_5_miyd_h (d : Byte) -- set 5,(iy+*),h; FD CB d EC; R295
  | set_5_miyd_l (d : Byte) -- set 5,(iy+*),l; FD CB d ED; R295
  | set_5_miyd (d : Byte) -- set 5,(iy+*); FD CB d EE; R295
  | set_5_miyd_a (d : Byte) -- set 5,(iy+*),a; FD CB d EF; R295
  | set_6_miyd_b (d : Byte) -- set 6,(iy+*),b; FD CB d F0; R295
  | set_6_miyd_c (d : Byte) -- set 6,(iy+*),c; FD CB d F1; R295
  | set_6_miyd_d (d : Byte) -- set 6,(iy+*),d; FD CB d F2; R295
  | set_6_miyd_e (d : Byte) -- set 6,(iy+*),e; FD CB d F3; R295
  | set_6_miyd_h (d : Byte) -- set 6,(iy+*),h; FD CB d F4; R295
  | set_6_miyd_l (d : Byte) -- set 6,(iy+*),l; FD CB d F5; R295
  | set_6_miyd (d : Byte) -- set 6,(iy+*); FD CB d F6; R295
  | set_6_miyd_a (d : Byte) -- set 6,(iy+*),a; FD CB d F7; R295
  | set_7_miyd_b (d : Byte) -- set 7,(iy+*),b; FD CB d F8; R295
  | set_7_miyd_c (d : Byte) -- set 7,(iy+*),c; FD CB d F9; R295
  | set_7_miyd_d (d : Byte) -- set 7,(iy+*),d; FD CB d FA; R295
  | set_7_miyd_e (d : Byte) -- set 7,(iy+*),e; FD CB d FB; R295
  | set_7_miyd_h (d : Byte) -- set 7,(iy+*),h; FD CB d FC; R295
  | set_7_miyd_l (d : Byte) -- set 7,(iy+*),l; FD CB d FD; R295
  | set_7_miyd (d : Byte) -- set 7,(iy+*); FD CB d FE; R295
  | set_7_miyd_a (d : Byte) -- set 7,(iy+*),a; FD CB d FF; R295
deriving DecidableEq, Repr

end Sys2Proof
end

