-- ==== Sys2Proof/Decode.lean ====
section
/-! DEFINITION. The decoder, total on any bytes (spec 30_encoding.md R80 to R95), and after it the encoder. Lean's code
generator cannot build a constructor with fields whose number is above 244, and the opcode table has 1137 names, so every
definition that builds an `Instr` stands in a `noncomputable section`: it has no compiled code, and the kernel evaluates it
like any other definition (notes/assumptions/9.md). -/

namespace Sys2Proof

/-- Why a list of bytes is no instruction. -/
inductive DecodeError where
  /-- The bytes end before the instruction does. -/
  | truncated
  /-- "A byte sequence that is not one of the 1268 encodings" (R93): the first byte and the second. -/
  | illegal (b0 b1 : Byte)
deriving DecidableEq, Repr

/-- One place of an opcode map: what the opcode byte names, and the operand bytes that follow it in template order
(20_memory.md R61; R94). -/
inductive Entry where
  /-- No instruction at this place (R93), or a place that a longer opcode takes. -/
  | none
  | op (i : Instr)
  /-- One operand byte: `n`, `d` or `e`. -/
  | n (i : Byte → Instr)
  /-- A word, low byte first. -/
  | nn (i : Word → Instr)
  /-- The displacement, then the immediate byte. -/
  | dn (i : Byte → Byte → Instr)

/-- A row of an opcode map that holds no instruction. -/
def noRow : List Entry :=
  [.none, .none, .none, .none, .none, .none, .none, .none, .none, .none, .none, .none, .none, .none, .none, .none]

noncomputable section

/-! ### The unprefixed map, R88: row `op / 16`, column `op % 16`. -/

def mainRow0 : List Entry :=
  [
    .op .nop, .nn .ld_bc_nn, .op .ld_mbc_a, .op .inc_bc,
    .op .inc_b, .op .dec_b, .n .ld_b_n, .op .rlca,
    .op .ex_af_af, .op .add_hl_bc, .op .ld_a_mbc, .op .dec_bc,
    .op .inc_c, .op .dec_c, .n .ld_c_n, .op .rrca ]

def mainRow1 : List Entry :=
  [
    .n .djnz_e, .nn .ld_de_nn, .op .ld_mde_a, .op .inc_de,
    .op .inc_d, .op .dec_d, .n .ld_d_n, .op .rla,
    .n .jr_e, .op .add_hl_de, .op .ld_a_mde, .op .dec_de,
    .op .inc_e, .op .dec_e, .n .ld_e_n, .op .rra ]

def mainRow2 : List Entry :=
  [
    .n .jr_nz_e, .nn .ld_hl_nn, .nn (.ld_mnn_hl false), .op .inc_hl,
    .op .inc_h, .op .dec_h, .n .ld_h_n, .op .daa,
    .n .jr_z_e, .op .add_hl_hl, .nn (.ld_hl_mnn false), .op .dec_hl,
    .op .inc_l, .op .dec_l, .n .ld_l_n, .op .cpl ]

def mainRow3 : List Entry :=
  [
    .n .jr_nc_e, .nn .ld_sp_nn, .nn .ld_mnn_a, .op .inc_sp,
    .op .inc_mhl, .op .dec_mhl, .n .ld_mhl_n, .op .scf,
    .n .jr_c_e, .op .add_hl_sp, .nn .ld_a_mnn, .op .dec_sp,
    .op .inc_a, .op .dec_a, .n .ld_a_n, .op .ccf ]

def mainRow4 : List Entry :=
  [
    .op .ld_b_b, .op .ld_b_c, .op .ld_b_d, .op .ld_b_e,
    .op .ld_b_h, .op .ld_b_l, .op .ld_b_mhl, .op .ld_b_a,
    .op .ld_c_b, .op .ld_c_c, .op .ld_c_d, .op .ld_c_e,
    .op .ld_c_h, .op .ld_c_l, .op .ld_c_mhl, .op .ld_c_a ]

def mainRow5 : List Entry :=
  [
    .op .ld_d_b, .op .ld_d_c, .op .ld_d_d, .op .ld_d_e,
    .op .ld_d_h, .op .ld_d_l, .op .ld_d_mhl, .op .ld_d_a,
    .op .ld_e_b, .op .ld_e_c, .op .ld_e_d, .op .ld_e_e,
    .op .ld_e_h, .op .ld_e_l, .op .ld_e_mhl, .op .ld_e_a ]

def mainRow6 : List Entry :=
  [
    .op .ld_h_b, .op .ld_h_c, .op .ld_h_d, .op .ld_h_e,
    .op .ld_h_h, .op .ld_h_l, .op .ld_h_mhl, .op .ld_h_a,
    .op .ld_l_b, .op .ld_l_c, .op .ld_l_d, .op .ld_l_e,
    .op .ld_l_h, .op .ld_l_l, .op .ld_l_mhl, .op .ld_l_a ]

def mainRow7 : List Entry :=
  [
    .op .ld_mhl_b, .op .ld_mhl_c, .op .ld_mhl_d, .op .ld_mhl_e,
    .op .ld_mhl_h, .op .ld_mhl_l, .op .halt, .op .ld_mhl_a,
    .op .ld_a_b, .op .ld_a_c, .op .ld_a_d, .op .ld_a_e,
    .op .ld_a_h, .op .ld_a_l, .op .ld_a_mhl, .op .ld_a_a ]

def mainRow8 : List Entry :=
  [
    .op .add_a_b, .op .add_a_c, .op .add_a_d, .op .add_a_e,
    .op .add_a_h, .op .add_a_l, .op .add_a_mhl, .op .add_a_a,
    .op .adc_a_b, .op .adc_a_c, .op .adc_a_d, .op .adc_a_e,
    .op .adc_a_h, .op .adc_a_l, .op .adc_a_mhl, .op .adc_a_a ]

def mainRow9 : List Entry :=
  [
    .op .sub_b, .op .sub_c, .op .sub_d, .op .sub_e,
    .op .sub_h, .op .sub_l, .op .sub_mhl, .op .sub_a,
    .op .sbc_a_b, .op .sbc_a_c, .op .sbc_a_d, .op .sbc_a_e,
    .op .sbc_a_h, .op .sbc_a_l, .op .sbc_a_mhl, .op .sbc_a_a ]

def mainRowA : List Entry :=
  [
    .op .and_b, .op .and_c, .op .and_d, .op .and_e,
    .op .and_h, .op .and_l, .op .and_mhl, .op .and_a,
    .op .xor_b, .op .xor_c, .op .xor_d, .op .xor_e,
    .op .xor_h, .op .xor_l, .op .xor_mhl, .op .xor_a ]

def mainRowB : List Entry :=
  [
    .op .or_b, .op .or_c, .op .or_d, .op .or_e,
    .op .or_h, .op .or_l, .op .or_mhl, .op .or_a,
    .op .cp_b, .op .cp_c, .op .cp_d, .op .cp_e,
    .op .cp_h, .op .cp_l, .op .cp_mhl, .op .cp_a ]

def mainRowC : List Entry :=
  [
    .op .ret_nz, .op .pop_bc, .nn .jp_nz_nn, .nn .jp_nn,
    .nn .call_nz_nn, .op .push_bc, .n .add_a_n, .op .rst_00h,
    .op .ret_z, .op .ret, .nn .jp_z_nn, .none,
    .nn .call_z_nn, .nn .call_nn, .n .adc_a_n, .op .rst_08h ]

def mainRowD : List Entry :=
  [
    .op .ret_nc, .op .pop_de, .nn .jp_nc_nn, .n .out_mn_a,
    .nn .call_nc_nn, .op .push_de, .n .sub_n, .op .rst_10h,
    .op .ret_c, .op .exx, .nn .jp_c_nn, .n .in_a_mn,
    .nn .call_c_nn, .none, .n .sbc_a_n, .op .rst_18h ]

def mainRowE : List Entry :=
  [
    .op .ret_po, .op .pop_hl, .nn .jp_po_nn, .op .ex_msp_hl,
    .nn .call_po_nn, .op .push_hl, .n .and_n, .op .rst_20h,
    .op .ret_pe, .op .jp_mhl, .nn .jp_pe_nn, .op .ex_de_hl,
    .nn .call_pe_nn, .none, .n .xor_n, .op .rst_28h ]

def mainRowF : List Entry :=
  [
    .op .ret_p, .op .pop_af, .nn .jp_p_nn, .op .di,
    .nn .call_p_nn, .op .push_af, .n .or_n, .op .rst_30h,
    .op .ret_m, .op .ld_sp_hl, .nn .jp_m_nn, .op .ei,
    .nn .call_m_nn, .none, .n .cp_n, .op .rst_38h ]

/-- The unprefixed map, R88: row `op / 16`, column `op % 16`. -/
def mainMap : List (List Entry) :=
  [mainRow0, mainRow1, mainRow2, mainRow3, mainRow4, mainRow5, mainRow6, mainRow7,
   mainRow8, mainRow9, mainRowA, mainRowB, mainRowC, mainRowD, mainRowE, mainRowF]

/-! ### The `CB` map, R89. -/

def cbRow0 : List Entry :=
  [
    .op .rlc_b, .op .rlc_c, .op .rlc_d, .op .rlc_e,
    .op .rlc_h, .op .rlc_l, .op .rlc_mhl, .op .rlc_a,
    .op .rrc_b, .op .rrc_c, .op .rrc_d, .op .rrc_e,
    .op .rrc_h, .op .rrc_l, .op .rrc_mhl, .op .rrc_a ]

def cbRow1 : List Entry :=
  [
    .op .rl_b, .op .rl_c, .op .rl_d, .op .rl_e,
    .op .rl_h, .op .rl_l, .op .rl_mhl, .op .rl_a,
    .op .rr_b, .op .rr_c, .op .rr_d, .op .rr_e,
    .op .rr_h, .op .rr_l, .op .rr_mhl, .op .rr_a ]

def cbRow2 : List Entry :=
  [
    .op .sla_b, .op .sla_c, .op .sla_d, .op .sla_e,
    .op .sla_h, .op .sla_l, .op .sla_mhl, .op .sla_a,
    .op .sra_b, .op .sra_c, .op .sra_d, .op .sra_e,
    .op .sra_h, .op .sra_l, .op .sra_mhl, .op .sra_a ]

def cbRow3 : List Entry :=
  [
    .op .sll_b, .op .sll_c, .op .sll_d, .op .sll_e,
    .op .sll_h, .op .sll_l, .op .sll_mhl, .op .sll_a,
    .op .srl_b, .op .srl_c, .op .srl_d, .op .srl_e,
    .op .srl_h, .op .srl_l, .op .srl_mhl, .op .srl_a ]

def cbRow4 : List Entry :=
  [
    .op .bit_0_b, .op .bit_0_c, .op .bit_0_d, .op .bit_0_e,
    .op .bit_0_h, .op .bit_0_l, .op .bit_0_mhl, .op .bit_0_a,
    .op .bit_1_b, .op .bit_1_c, .op .bit_1_d, .op .bit_1_e,
    .op .bit_1_h, .op .bit_1_l, .op .bit_1_mhl, .op .bit_1_a ]

def cbRow5 : List Entry :=
  [
    .op .bit_2_b, .op .bit_2_c, .op .bit_2_d, .op .bit_2_e,
    .op .bit_2_h, .op .bit_2_l, .op .bit_2_mhl, .op .bit_2_a,
    .op .bit_3_b, .op .bit_3_c, .op .bit_3_d, .op .bit_3_e,
    .op .bit_3_h, .op .bit_3_l, .op .bit_3_mhl, .op .bit_3_a ]

def cbRow6 : List Entry :=
  [
    .op .bit_4_b, .op .bit_4_c, .op .bit_4_d, .op .bit_4_e,
    .op .bit_4_h, .op .bit_4_l, .op .bit_4_mhl, .op .bit_4_a,
    .op .bit_5_b, .op .bit_5_c, .op .bit_5_d, .op .bit_5_e,
    .op .bit_5_h, .op .bit_5_l, .op .bit_5_mhl, .op .bit_5_a ]

def cbRow7 : List Entry :=
  [
    .op .bit_6_b, .op .bit_6_c, .op .bit_6_d, .op .bit_6_e,
    .op .bit_6_h, .op .bit_6_l, .op .bit_6_mhl, .op .bit_6_a,
    .op .bit_7_b, .op .bit_7_c, .op .bit_7_d, .op .bit_7_e,
    .op .bit_7_h, .op .bit_7_l, .op .bit_7_mhl, .op .bit_7_a ]

def cbRow8 : List Entry :=
  [
    .op .res_0_b, .op .res_0_c, .op .res_0_d, .op .res_0_e,
    .op .res_0_h, .op .res_0_l, .op .res_0_mhl, .op .res_0_a,
    .op .res_1_b, .op .res_1_c, .op .res_1_d, .op .res_1_e,
    .op .res_1_h, .op .res_1_l, .op .res_1_mhl, .op .res_1_a ]

def cbRow9 : List Entry :=
  [
    .op .res_2_b, .op .res_2_c, .op .res_2_d, .op .res_2_e,
    .op .res_2_h, .op .res_2_l, .op .res_2_mhl, .op .res_2_a,
    .op .res_3_b, .op .res_3_c, .op .res_3_d, .op .res_3_e,
    .op .res_3_h, .op .res_3_l, .op .res_3_mhl, .op .res_3_a ]

def cbRowA : List Entry :=
  [
    .op .res_4_b, .op .res_4_c, .op .res_4_d, .op .res_4_e,
    .op .res_4_h, .op .res_4_l, .op .res_4_mhl, .op .res_4_a,
    .op .res_5_b, .op .res_5_c, .op .res_5_d, .op .res_5_e,
    .op .res_5_h, .op .res_5_l, .op .res_5_mhl, .op .res_5_a ]

def cbRowB : List Entry :=
  [
    .op .res_6_b, .op .res_6_c, .op .res_6_d, .op .res_6_e,
    .op .res_6_h, .op .res_6_l, .op .res_6_mhl, .op .res_6_a,
    .op .res_7_b, .op .res_7_c, .op .res_7_d, .op .res_7_e,
    .op .res_7_h, .op .res_7_l, .op .res_7_mhl, .op .res_7_a ]

def cbRowC : List Entry :=
  [
    .op .set_0_b, .op .set_0_c, .op .set_0_d, .op .set_0_e,
    .op .set_0_h, .op .set_0_l, .op .set_0_mhl, .op .set_0_a,
    .op .set_1_b, .op .set_1_c, .op .set_1_d, .op .set_1_e,
    .op .set_1_h, .op .set_1_l, .op .set_1_mhl, .op .set_1_a ]

def cbRowD : List Entry :=
  [
    .op .set_2_b, .op .set_2_c, .op .set_2_d, .op .set_2_e,
    .op .set_2_h, .op .set_2_l, .op .set_2_mhl, .op .set_2_a,
    .op .set_3_b, .op .set_3_c, .op .set_3_d, .op .set_3_e,
    .op .set_3_h, .op .set_3_l, .op .set_3_mhl, .op .set_3_a ]

def cbRowE : List Entry :=
  [
    .op .set_4_b, .op .set_4_c, .op .set_4_d, .op .set_4_e,
    .op .set_4_h, .op .set_4_l, .op .set_4_mhl, .op .set_4_a,
    .op .set_5_b, .op .set_5_c, .op .set_5_d, .op .set_5_e,
    .op .set_5_h, .op .set_5_l, .op .set_5_mhl, .op .set_5_a ]

def cbRowF : List Entry :=
  [
    .op .set_6_b, .op .set_6_c, .op .set_6_d, .op .set_6_e,
    .op .set_6_h, .op .set_6_l, .op .set_6_mhl, .op .set_6_a,
    .op .set_7_b, .op .set_7_c, .op .set_7_d, .op .set_7_e,
    .op .set_7_h, .op .set_7_l, .op .set_7_mhl, .op .set_7_a ]

/-- The `CB` map, R89. -/
def cbMap : List (List Entry) :=
  [cbRow0, cbRow1, cbRow2, cbRow3, cbRow4, cbRow5, cbRow6, cbRow7,
   cbRow8, cbRow9, cbRowA, cbRowB, cbRowC, cbRowD, cbRowE, cbRowF]

/-! ### The `ED` map, R90. -/

def edRow4 : List Entry :=
  [
    .op .in_b_mc, .op .out_mc_b, .op .sbc_hl_bc, .nn .ld_mnn_bc,
    .op (.neg 0), .op (.retn 0), .op (.im_0 0), .op .ld_i_a,
    .op .in_c_mc, .op .out_mc_c, .op .adc_hl_bc, .nn .ld_bc_mnn,
    .op (.neg 1), .op .reti, .op (.im_0_1 1), .op .ld_r_a ]

def edRow5 : List Entry :=
  [
    .op .in_d_mc, .op .out_mc_d, .op .sbc_hl_de, .nn .ld_mnn_de,
    .op (.neg 2), .op (.retn 2), .op (.im_1 2), .op .ld_a_i,
    .op .in_e_mc, .op .out_mc_e, .op .adc_hl_de, .nn .ld_de_mnn,
    .op (.neg 3), .op (.retn 3), .op (.im_2 3), .op .ld_a_r ]

def edRow6 : List Entry :=
  [
    .op .in_h_mc, .op .out_mc_h, .op .sbc_hl_hl, .nn (.ld_mnn_hl true),
    .op (.neg 4), .op (.retn 4), .op (.im_0 4), .op .rrd,
    .op .in_l_mc, .op .out_mc_l, .op .adc_hl_hl, .nn (.ld_hl_mnn true),
    .op (.neg 5), .op (.retn 5), .op (.im_0_1 5), .op .rld ]

def edRow7 : List Entry :=
  [
    .op .in_mc, .op .out_mc_0, .op .sbc_hl_sp, .nn .ld_mnn_sp,
    .op (.neg 6), .op (.retn 6), .op (.im_1 6), .none,
    .op .in_a_mc, .op .out_mc_a, .op .adc_hl_sp, .nn .ld_sp_mnn,
    .op (.neg 7), .op (.retn 7), .op (.im_2 7), .none ]

def edRowA : List Entry :=
  [
    .op .ldi, .op .cpi, .op .ini, .op .outi,
    .none, .none, .none, .none,
    .op .ldd, .op .cpd, .op .ind, .op .outd,
    .none, .none, .none, .none ]

def edRowB : List Entry :=
  [
    .op .ldir, .op .cpir, .op .inir, .op .otir,
    .none, .none, .none, .none,
    .op .lddr, .op .cpdr, .op .indr, .op .otdr,
    .none, .none, .none, .none ]

/-- The `ED` map, R90. -/
def edMap : List (List Entry) :=
  [noRow, noRow, noRow, noRow, edRow4, edRow5, edRow6, edRow7,
   noRow, noRow, edRowA, edRowB, noRow, noRow, noRow, noRow]

/-! ### The `DD` map, R91. -/

def ddRow0 : List Entry :=
  [
    .none, .none, .none, .none,
    .none, .none, .none, .none,
    .none, .op .add_ix_bc, .none, .none,
    .none, .none, .none, .none ]

def ddRow1 : List Entry :=
  [
    .none, .none, .none, .none,
    .none, .none, .none, .none,
    .none, .op .add_ix_de, .none, .none,
    .none, .none, .none, .none ]

def ddRow2 : List Entry :=
  [
    .none, .nn .ld_ix_nn, .nn .ld_mnn_ix, .op .inc_ix,
    .op .inc_ixh, .op .dec_ixh, .n .ld_ixh_n, .none,
    .none, .op .add_ix_ix, .nn .ld_ix_mnn, .op .dec_ix,
    .op .inc_ixl, .op .dec_ixl, .n .ld_ixl_n, .none ]

def ddRow3 : List Entry :=
  [
    .none, .none, .none, .none,
    .n .inc_mixd, .n .dec_mixd, .dn .ld_mixd_n, .none,
    .none, .op .add_ix_sp, .none, .none,
    .none, .none, .none, .none ]

def ddRow4 : List Entry :=
  [
    .none, .none, .none, .none,
    .op .ld_b_ixh, .op .ld_b_ixl, .n .ld_b_mixd, .none,
    .none, .none, .none, .none,
    .op .ld_c_ixh, .op .ld_c_ixl, .n .ld_c_mixd, .none ]

def ddRow5 : List Entry :=
  [
    .none, .none, .none, .none,
    .op .ld_d_ixh, .op .ld_d_ixl, .n .ld_d_mixd, .none,
    .none, .none, .none, .none,
    .op .ld_e_ixh, .op .ld_e_ixl, .n .ld_e_mixd, .none ]

def ddRow6 : List Entry :=
  [
    .op .ld_ixh_b, .op .ld_ixh_c, .op .ld_ixh_d, .op .ld_ixh_e,
    .op .ld_ixh_ixh, .op .ld_ixh_ixl, .n .ld_h_mixd, .op .ld_ixh_a,
    .op .ld_ixl_b, .op .ld_ixl_c, .op .ld_ixl_d, .op .ld_ixl_e,
    .op .ld_ixl_ixh, .op .ld_ixl_ixl, .n .ld_l_mixd, .op .ld_ixl_a ]

def ddRow7 : List Entry :=
  [
    .n .ld_mixd_b, .n .ld_mixd_c, .n .ld_mixd_d, .n .ld_mixd_e,
    .n .ld_mixd_h, .n .ld_mixd_l, .none, .n .ld_mixd_a,
    .none, .none, .none, .none,
    .op .ld_a_ixh, .op .ld_a_ixl, .n .ld_a_mixd, .none ]

def ddRow8 : List Entry :=
  [
    .none, .none, .none, .none,
    .op .add_a_ixh, .op .add_a_ixl, .n .add_a_mixd, .none,
    .none, .none, .none, .none,
    .op .adc_a_ixh, .op .adc_a_ixl, .n .adc_a_mixd, .none ]

def ddRow9 : List Entry :=
  [
    .none, .none, .none, .none,
    .op .sub_ixh, .op .sub_ixl, .n .sub_mixd, .none,
    .none, .none, .none, .none,
    .op .sbc_a_ixh, .op .sbc_a_ixl, .n .sbc_a_mixd, .none ]

def ddRowA : List Entry :=
  [
    .none, .none, .none, .none,
    .op .and_ixh, .op .and_ixl, .n .and_mixd, .none,
    .none, .none, .none, .none,
    .op .xor_ixh, .op .xor_ixl, .n .xor_mixd, .none ]

def ddRowB : List Entry :=
  [
    .none, .none, .none, .none,
    .op .or_ixh, .op .or_ixl, .n .or_mixd, .none,
    .none, .none, .none, .none,
    .op .cp_ixh, .op .cp_ixl, .n .cp_mixd, .none ]

def ddRowE : List Entry :=
  [
    .none, .op .pop_ix, .none, .op .ex_msp_ix,
    .none, .op .push_ix, .none, .none,
    .none, .op .jp_mix, .none, .none,
    .none, .none, .none, .none ]

def ddRowF : List Entry :=
  [
    .none, .none, .none, .none,
    .none, .none, .none, .none,
    .none, .op .ld_sp_ix, .none, .none,
    .none, .none, .none, .none ]

/-- The `DD` map, R91. -/
def ddMap : List (List Entry) :=
  [ddRow0, ddRow1, ddRow2, ddRow3, ddRow4, ddRow5, ddRow6, ddRow7,
   ddRow8, ddRow9, ddRowA, ddRowB, noRow, noRow, ddRowE, ddRowF]

/-! ### The `FD` map, R91. -/

def fdRow0 : List Entry :=
  [
    .none, .none, .none, .none,
    .none, .none, .none, .none,
    .none, .op .add_iy_bc, .none, .none,
    .none, .none, .none, .none ]

def fdRow1 : List Entry :=
  [
    .none, .none, .none, .none,
    .none, .none, .none, .none,
    .none, .op .add_iy_de, .none, .none,
    .none, .none, .none, .none ]

def fdRow2 : List Entry :=
  [
    .none, .nn .ld_iy_nn, .nn .ld_mnn_iy, .op .inc_iy,
    .op .inc_iyh, .op .dec_iyh, .n .ld_iyh_n, .none,
    .none, .op .add_iy_iy, .nn .ld_iy_mnn, .op .dec_iy,
    .op .inc_iyl, .op .dec_iyl, .n .ld_iyl_n, .none ]

def fdRow3 : List Entry :=
  [
    .none, .none, .none, .none,
    .n .inc_miyd, .n .dec_miyd, .dn .ld_miyd_n, .none,
    .none, .op .add_iy_sp, .none, .none,
    .none, .none, .none, .none ]

def fdRow4 : List Entry :=
  [
    .none, .none, .none, .none,
    .op .ld_b_iyh, .op .ld_b_iyl, .n .ld_b_miyd, .none,
    .none, .none, .none, .none,
    .op .ld_c_iyh, .op .ld_c_iyl, .n .ld_c_miyd, .none ]

def fdRow5 : List Entry :=
  [
    .none, .none, .none, .none,
    .op .ld_d_iyh, .op .ld_d_iyl, .n .ld_d_miyd, .none,
    .none, .none, .none, .none,
    .op .ld_e_iyh, .op .ld_e_iyl, .n .ld_e_miyd, .none ]

def fdRow6 : List Entry :=
  [
    .op .ld_iyh_b, .op .ld_iyh_c, .op .ld_iyh_d, .op .ld_iyh_e,
    .op .ld_iyh_iyh, .op .ld_iyh_iyl, .n .ld_h_miyd, .op .ld_iyh_a,
    .op .ld_iyl_b, .op .ld_iyl_c, .op .ld_iyl_d, .op .ld_iyl_e,
    .op .ld_iyl_iyh, .op .ld_iyl_iyl, .n .ld_l_miyd, .op .ld_iyl_a ]

def fdRow7 : List Entry :=
  [
    .n .ld_miyd_b, .n .ld_miyd_c, .n .ld_miyd_d, .n .ld_miyd_e,
    .n .ld_miyd_h, .n .ld_miyd_l, .none, .n .ld_miyd_a,
    .none, .none, .none, .none,
    .op .ld_a_iyh, .op .ld_a_iyl, .n .ld_a_miyd, .none ]

def fdRow8 : List Entry :=
  [
    .none, .none, .none, .none,
    .op .add_a_iyh, .op .add_a_iyl, .n .add_a_miyd, .none,
    .none, .none, .none, .none,
    .op .adc_a_iyh, .op .adc_a_iyl, .n .adc_a_miyd, .none ]

def fdRow9 : List Entry :=
  [
    .none, .none, .none, .none,
    .op .sub_iyh, .op .sub_iyl, .n .sub_miyd, .none,
    .none, .none, .none, .none,
    .op .sbc_a_iyh, .op .sbc_a_iyl, .n .sbc_a_miyd, .none ]

def fdRowA : List Entry :=
  [
    .none, .none, .none, .none,
    .op .and_iyh, .op .and_iyl, .n .and_miyd, .none,
    .none, .none, .none, .none,
    .op .xor_iyh, .op .xor_iyl, .n .xor_miyd, .none ]

def fdRowB : List Entry :=
  [
    .none, .none, .none, .none,
    .op .or_iyh, .op .or_iyl, .n .or_miyd, .none,
    .none, .none, .none, .none,
    .op .cp_iyh, .op .cp_iyl, .n .cp_miyd, .none ]

def fdRowE : List Entry :=
  [
    .none, .op .pop_iy, .none, .op .ex_msp_iy,
    .none, .op .push_iy, .none, .none,
    .none, .op .jp_miy, .none, .none,
    .none, .none, .none, .none ]

def fdRowF : List Entry :=
  [
    .none, .none, .none, .none,
    .none, .none, .none, .none,
    .none, .op .ld_sp_iy, .none, .none,
    .none, .none, .none, .none ]

/-- The `FD` map, R91. -/
def fdMap : List (List Entry) :=
  [fdRow0, fdRow1, fdRow2, fdRow3, fdRow4, fdRow5, fdRow6, fdRow7,
   fdRow8, fdRow9, fdRowA, fdRowB, noRow, noRow, fdRowE, fdRowF]

/-! ### The `DDCB` map, R92: an instruction once its displacement is given. -/

def ddcbRow0 : List (Byte → Instr) :=
  [
    .rlc_mixd_b, .rlc_mixd_c, .rlc_mixd_d, .rlc_mixd_e,
    .rlc_mixd_h, .rlc_mixd_l, .rlc_mixd, .rlc_mixd_a,
    .rrc_mixd_b, .rrc_mixd_c, .rrc_mixd_d, .rrc_mixd_e,
    .rrc_mixd_h, .rrc_mixd_l, .rrc_mixd, .rrc_mixd_a ]

def ddcbRow1 : List (Byte → Instr) :=
  [
    .rl_mixd_b, .rl_mixd_c, .rl_mixd_d, .rl_mixd_e,
    .rl_mixd_h, .rl_mixd_l, .rl_mixd, .rl_mixd_a,
    .rr_mixd_b, .rr_mixd_c, .rr_mixd_d, .rr_mixd_e,
    .rr_mixd_h, .rr_mixd_l, .rr_mixd, .rr_mixd_a ]

def ddcbRow2 : List (Byte → Instr) :=
  [
    .sla_mixd_b, .sla_mixd_c, .sla_mixd_d, .sla_mixd_e,
    .sla_mixd_h, .sla_mixd_l, .sla_mixd, .sla_mixd_a,
    .sra_mixd_b, .sra_mixd_c, .sra_mixd_d, .sra_mixd_e,
    .sra_mixd_h, .sra_mixd_l, .sra_mixd, .sra_mixd_a ]

def ddcbRow3 : List (Byte → Instr) :=
  [
    .sll_mixd_b, .sll_mixd_c, .sll_mixd_d, .sll_mixd_e,
    .sll_mixd_h, .sll_mixd_l, .sll_mixd, .sll_mixd_a,
    .srl_mixd_b, .srl_mixd_c, .srl_mixd_d, .srl_mixd_e,
    .srl_mixd_h, .srl_mixd_l, .srl_mixd, .srl_mixd_a ]

def ddcbRow4 : List (Byte → Instr) :=
  [
    (.bit_0_mixd · 0), (.bit_0_mixd · 1), (.bit_0_mixd · 2), (.bit_0_mixd · 3),
    (.bit_0_mixd · 4), (.bit_0_mixd · 5), (.bit_0_mixd · 6), (.bit_0_mixd · 7),
    (.bit_1_mixd · 0), (.bit_1_mixd · 1), (.bit_1_mixd · 2), (.bit_1_mixd · 3),
    (.bit_1_mixd · 4), (.bit_1_mixd · 5), (.bit_1_mixd · 6), (.bit_1_mixd · 7) ]

def ddcbRow5 : List (Byte → Instr) :=
  [
    (.bit_2_mixd · 0), (.bit_2_mixd · 1), (.bit_2_mixd · 2), (.bit_2_mixd · 3),
    (.bit_2_mixd · 4), (.bit_2_mixd · 5), (.bit_2_mixd · 6), (.bit_2_mixd · 7),
    (.bit_3_mixd · 0), (.bit_3_mixd · 1), (.bit_3_mixd · 2), (.bit_3_mixd · 3),
    (.bit_3_mixd · 4), (.bit_3_mixd · 5), (.bit_3_mixd · 6), (.bit_3_mixd · 7) ]

def ddcbRow6 : List (Byte → Instr) :=
  [
    (.bit_4_mixd · 0), (.bit_4_mixd · 1), (.bit_4_mixd · 2), (.bit_4_mixd · 3),
    (.bit_4_mixd · 4), (.bit_4_mixd · 5), (.bit_4_mixd · 6), (.bit_4_mixd · 7),
    (.bit_5_mixd · 0), (.bit_5_mixd · 1), (.bit_5_mixd · 2), (.bit_5_mixd · 3),
    (.bit_5_mixd · 4), (.bit_5_mixd · 5), (.bit_5_mixd · 6), (.bit_5_mixd · 7) ]

def ddcbRow7 : List (Byte → Instr) :=
  [
    (.bit_6_mixd · 0), (.bit_6_mixd · 1), (.bit_6_mixd · 2), (.bit_6_mixd · 3),
    (.bit_6_mixd · 4), (.bit_6_mixd · 5), (.bit_6_mixd · 6), (.bit_6_mixd · 7),
    (.bit_7_mixd · 0), (.bit_7_mixd · 1), (.bit_7_mixd · 2), (.bit_7_mixd · 3),
    (.bit_7_mixd · 4), (.bit_7_mixd · 5), (.bit_7_mixd · 6), (.bit_7_mixd · 7) ]

def ddcbRow8 : List (Byte → Instr) :=
  [
    .res_0_mixd_b, .res_0_mixd_c, .res_0_mixd_d, .res_0_mixd_e,
    .res_0_mixd_h, .res_0_mixd_l, .res_0_mixd, .res_0_mixd_a,
    .res_1_mixd_b, .res_1_mixd_c, .res_1_mixd_d, .res_1_mixd_e,
    .res_1_mixd_h, .res_1_mixd_l, .res_1_mixd, .res_1_mixd_a ]

def ddcbRow9 : List (Byte → Instr) :=
  [
    .res_2_mixd_b, .res_2_mixd_c, .res_2_mixd_d, .res_2_mixd_e,
    .res_2_mixd_h, .res_2_mixd_l, .res_2_mixd, .res_2_mixd_a,
    .res_3_mixd_b, .res_3_mixd_c, .res_3_mixd_d, .res_3_mixd_e,
    .res_3_mixd_h, .res_3_mixd_l, .res_3_mixd, .res_3_mixd_a ]

def ddcbRowA : List (Byte → Instr) :=
  [
    .res_4_mixd_b, .res_4_mixd_c, .res_4_mixd_d, .res_4_mixd_e,
    .res_4_mixd_h, .res_4_mixd_l, .res_4_mixd, .res_4_mixd_a,
    .res_5_mixd_b, .res_5_mixd_c, .res_5_mixd_d, .res_5_mixd_e,
    .res_5_mixd_h, .res_5_mixd_l, .res_5_mixd, .res_5_mixd_a ]

def ddcbRowB : List (Byte → Instr) :=
  [
    .res_6_mixd_b, .res_6_mixd_c, .res_6_mixd_d, .res_6_mixd_e,
    .res_6_mixd_h, .res_6_mixd_l, .res_6_mixd, .res_6_mixd_a,
    .res_7_mixd_b, .res_7_mixd_c, .res_7_mixd_d, .res_7_mixd_e,
    .res_7_mixd_h, .res_7_mixd_l, .res_7_mixd, .res_7_mixd_a ]

def ddcbRowC : List (Byte → Instr) :=
  [
    .set_0_mixd_b, .set_0_mixd_c, .set_0_mixd_d, .set_0_mixd_e,
    .set_0_mixd_h, .set_0_mixd_l, .set_0_mixd, .set_0_mixd_a,
    .set_1_mixd_b, .set_1_mixd_c, .set_1_mixd_d, .set_1_mixd_e,
    .set_1_mixd_h, .set_1_mixd_l, .set_1_mixd, .set_1_mixd_a ]

def ddcbRowD : List (Byte → Instr) :=
  [
    .set_2_mixd_b, .set_2_mixd_c, .set_2_mixd_d, .set_2_mixd_e,
    .set_2_mixd_h, .set_2_mixd_l, .set_2_mixd, .set_2_mixd_a,
    .set_3_mixd_b, .set_3_mixd_c, .set_3_mixd_d, .set_3_mixd_e,
    .set_3_mixd_h, .set_3_mixd_l, .set_3_mixd, .set_3_mixd_a ]

def ddcbRowE : List (Byte → Instr) :=
  [
    .set_4_mixd_b, .set_4_mixd_c, .set_4_mixd_d, .set_4_mixd_e,
    .set_4_mixd_h, .set_4_mixd_l, .set_4_mixd, .set_4_mixd_a,
    .set_5_mixd_b, .set_5_mixd_c, .set_5_mixd_d, .set_5_mixd_e,
    .set_5_mixd_h, .set_5_mixd_l, .set_5_mixd, .set_5_mixd_a ]

def ddcbRowF : List (Byte → Instr) :=
  [
    .set_6_mixd_b, .set_6_mixd_c, .set_6_mixd_d, .set_6_mixd_e,
    .set_6_mixd_h, .set_6_mixd_l, .set_6_mixd, .set_6_mixd_a,
    .set_7_mixd_b, .set_7_mixd_c, .set_7_mixd_d, .set_7_mixd_e,
    .set_7_mixd_h, .set_7_mixd_l, .set_7_mixd, .set_7_mixd_a ]

/-- The `DDCB` map, R92: an instruction once its displacement is given. -/
def ddcbMap : List (List (Byte → Instr)) :=
  [ddcbRow0, ddcbRow1, ddcbRow2, ddcbRow3, ddcbRow4, ddcbRow5, ddcbRow6, ddcbRow7,
   ddcbRow8, ddcbRow9, ddcbRowA, ddcbRowB, ddcbRowC, ddcbRowD, ddcbRowE, ddcbRowF]

/-! ### The `FDCB` map, R92. -/

def fdcbRow0 : List (Byte → Instr) :=
  [
    .rlc_miyd_b, .rlc_miyd_c, .rlc_miyd_d, .rlc_miyd_e,
    .rlc_miyd_h, .rlc_miyd_l, .rlc_miyd, .rlc_miyd_a,
    .rrc_miyd_b, .rrc_miyd_c, .rrc_miyd_d, .rrc_miyd_e,
    .rrc_miyd_h, .rrc_miyd_l, .rrc_miyd, .rrc_miyd_a ]

def fdcbRow1 : List (Byte → Instr) :=
  [
    .rl_miyd_b, .rl_miyd_c, .rl_miyd_d, .rl_miyd_e,
    .rl_miyd_h, .rl_miyd_l, .rl_miyd, .rl_miyd_a,
    .rr_miyd_b, .rr_miyd_c, .rr_miyd_d, .rr_miyd_e,
    .rr_miyd_h, .rr_miyd_l, .rr_miyd, .rr_miyd_a ]

def fdcbRow2 : List (Byte → Instr) :=
  [
    .sla_miyd_b, .sla_miyd_c, .sla_miyd_d, .sla_miyd_e,
    .sla_miyd_h, .sla_miyd_l, .sla_miyd, .sla_miyd_a,
    .sra_miyd_b, .sra_miyd_c, .sra_miyd_d, .sra_miyd_e,
    .sra_miyd_h, .sra_miyd_l, .sra_miyd, .sra_miyd_a ]

def fdcbRow3 : List (Byte → Instr) :=
  [
    .sll_miyd_b, .sll_miyd_c, .sll_miyd_d, .sll_miyd_e,
    .sll_miyd_h, .sll_miyd_l, .sll_miyd, .sll_miyd_a,
    .srl_miyd_b, .srl_miyd_c, .srl_miyd_d, .srl_miyd_e,
    .srl_miyd_h, .srl_miyd_l, .srl_miyd, .srl_miyd_a ]

def fdcbRow4 : List (Byte → Instr) :=
  [
    (.bit_0_miyd · 0), (.bit_0_miyd · 1), (.bit_0_miyd · 2), (.bit_0_miyd · 3),
    (.bit_0_miyd · 4), (.bit_0_miyd · 5), (.bit_0_miyd · 6), (.bit_0_miyd · 7),
    (.bit_1_miyd · 0), (.bit_1_miyd · 1), (.bit_1_miyd · 2), (.bit_1_miyd · 3),
    (.bit_1_miyd · 4), (.bit_1_miyd · 5), (.bit_1_miyd · 6), (.bit_1_miyd · 7) ]

def fdcbRow5 : List (Byte → Instr) :=
  [
    (.bit_2_miyd · 0), (.bit_2_miyd · 1), (.bit_2_miyd · 2), (.bit_2_miyd · 3),
    (.bit_2_miyd · 4), (.bit_2_miyd · 5), (.bit_2_miyd · 6), (.bit_2_miyd · 7),
    (.bit_3_miyd · 0), (.bit_3_miyd · 1), (.bit_3_miyd · 2), (.bit_3_miyd · 3),
    (.bit_3_miyd · 4), (.bit_3_miyd · 5), (.bit_3_miyd · 6), (.bit_3_miyd · 7) ]

def fdcbRow6 : List (Byte → Instr) :=
  [
    (.bit_4_miyd · 0), (.bit_4_miyd · 1), (.bit_4_miyd · 2), (.bit_4_miyd · 3),
    (.bit_4_miyd · 4), (.bit_4_miyd · 5), (.bit_4_miyd · 6), (.bit_4_miyd · 7),
    (.bit_5_miyd · 0), (.bit_5_miyd · 1), (.bit_5_miyd · 2), (.bit_5_miyd · 3),
    (.bit_5_miyd · 4), (.bit_5_miyd · 5), (.bit_5_miyd · 6), (.bit_5_miyd · 7) ]

def fdcbRow7 : List (Byte → Instr) :=
  [
    (.bit_6_miyd · 0), (.bit_6_miyd · 1), (.bit_6_miyd · 2), (.bit_6_miyd · 3),
    (.bit_6_miyd · 4), (.bit_6_miyd · 5), (.bit_6_miyd · 6), (.bit_6_miyd · 7),
    (.bit_7_miyd · 0), (.bit_7_miyd · 1), (.bit_7_miyd · 2), (.bit_7_miyd · 3),
    (.bit_7_miyd · 4), (.bit_7_miyd · 5), (.bit_7_miyd · 6), (.bit_7_miyd · 7) ]

def fdcbRow8 : List (Byte → Instr) :=
  [
    .res_0_miyd_b, .res_0_miyd_c, .res_0_miyd_d, .res_0_miyd_e,
    .res_0_miyd_h, .res_0_miyd_l, .res_0_miyd, .res_0_miyd_a,
    .res_1_miyd_b, .res_1_miyd_c, .res_1_miyd_d, .res_1_miyd_e,
    .res_1_miyd_h, .res_1_miyd_l, .res_1_miyd, .res_1_miyd_a ]

def fdcbRow9 : List (Byte → Instr) :=
  [
    .res_2_miyd_b, .res_2_miyd_c, .res_2_miyd_d, .res_2_miyd_e,
    .res_2_miyd_h, .res_2_miyd_l, .res_2_miyd, .res_2_miyd_a,
    .res_3_miyd_b, .res_3_miyd_c, .res_3_miyd_d, .res_3_miyd_e,
    .res_3_miyd_h, .res_3_miyd_l, .res_3_miyd, .res_3_miyd_a ]

def fdcbRowA : List (Byte → Instr) :=
  [
    .res_4_miyd_b, .res_4_miyd_c, .res_4_miyd_d, .res_4_miyd_e,
    .res_4_miyd_h, .res_4_miyd_l, .res_4_miyd, .res_4_miyd_a,
    .res_5_miyd_b, .res_5_miyd_c, .res_5_miyd_d, .res_5_miyd_e,
    .res_5_miyd_h, .res_5_miyd_l, .res_5_miyd, .res_5_miyd_a ]

def fdcbRowB : List (Byte → Instr) :=
  [
    .res_6_miyd_b, .res_6_miyd_c, .res_6_miyd_d, .res_6_miyd_e,
    .res_6_miyd_h, .res_6_miyd_l, .res_6_miyd, .res_6_miyd_a,
    .res_7_miyd_b, .res_7_miyd_c, .res_7_miyd_d, .res_7_miyd_e,
    .res_7_miyd_h, .res_7_miyd_l, .res_7_miyd, .res_7_miyd_a ]

def fdcbRowC : List (Byte → Instr) :=
  [
    .set_0_miyd_b, .set_0_miyd_c, .set_0_miyd_d, .set_0_miyd_e,
    .set_0_miyd_h, .set_0_miyd_l, .set_0_miyd, .set_0_miyd_a,
    .set_1_miyd_b, .set_1_miyd_c, .set_1_miyd_d, .set_1_miyd_e,
    .set_1_miyd_h, .set_1_miyd_l, .set_1_miyd, .set_1_miyd_a ]

def fdcbRowD : List (Byte → Instr) :=
  [
    .set_2_miyd_b, .set_2_miyd_c, .set_2_miyd_d, .set_2_miyd_e,
    .set_2_miyd_h, .set_2_miyd_l, .set_2_miyd, .set_2_miyd_a,
    .set_3_miyd_b, .set_3_miyd_c, .set_3_miyd_d, .set_3_miyd_e,
    .set_3_miyd_h, .set_3_miyd_l, .set_3_miyd, .set_3_miyd_a ]

def fdcbRowE : List (Byte → Instr) :=
  [
    .set_4_miyd_b, .set_4_miyd_c, .set_4_miyd_d, .set_4_miyd_e,
    .set_4_miyd_h, .set_4_miyd_l, .set_4_miyd, .set_4_miyd_a,
    .set_5_miyd_b, .set_5_miyd_c, .set_5_miyd_d, .set_5_miyd_e,
    .set_5_miyd_h, .set_5_miyd_l, .set_5_miyd, .set_5_miyd_a ]

def fdcbRowF : List (Byte → Instr) :=
  [
    .set_6_miyd_b, .set_6_miyd_c, .set_6_miyd_d, .set_6_miyd_e,
    .set_6_miyd_h, .set_6_miyd_l, .set_6_miyd, .set_6_miyd_a,
    .set_7_miyd_b, .set_7_miyd_c, .set_7_miyd_d, .set_7_miyd_e,
    .set_7_miyd_h, .set_7_miyd_l, .set_7_miyd, .set_7_miyd_a ]

/-- The `FDCB` map, R92. -/
def fdcbMap : List (List (Byte → Instr)) :=
  [fdcbRow0, fdcbRow1, fdcbRow2, fdcbRow3, fdcbRow4, fdcbRow5, fdcbRow6, fdcbRow7,
   fdcbRow8, fdcbRow9, fdcbRowA, fdcbRowB, fdcbRowC, fdcbRowD, fdcbRowE, fdcbRowF]

/-- The place of an opcode byte in a map of 16 rows of 16. -/
def mapAt {α : Type} (map : List (List α)) (op : Byte) : Option α :=
  (map[op.toNat / 16]?).bind (fun row => row[op.toNat % 16]?)

/-- The instruction of a place, its operand bytes taken from the stream (R87, R95). -/
def Entry.take (b0 b1 : Byte) : Entry → List Byte → Except DecodeError (Instr × List Byte)
  | .none, _ => .error (.illegal b0 b1)
  | .op i, rest => .ok (i, rest)
  | .n i, byte :: rest => .ok (i byte, rest)
  | .nn i, low :: high :: rest => .ok (i (joinBytes high low), rest)
  | .dn i, disp :: byte :: rest => .ok (i disp byte, rest)
  | _, _ => .error .truncated

/-- The instruction at an opcode byte of a map. -/
def takeAt (map : List (List Entry)) (b0 b1 op : Byte) (rest : List Byte) : Except DecodeError (Instr × List Byte) :=
  ((mapAt map op).getD .none).take b0 b1 rest

/-- The `DDCB` and `FDCB` format: the displacement precedes the final opcode byte (R80, R92). -/
def takeIndexedCb (map : List (List (Byte → Instr))) (b0 b1 : Byte) :
    List Byte → Except DecodeError (Instr × List Byte)
  | d :: op :: rest =>
    match mapAt map op with
    | some i => .ok (i d, rest)
    | none => .error (.illegal b0 b1)
  | _ => .error .truncated

/-- The `DD` or `FD` formats (R91, R92): the byte after the prefix chooses. -/
def takeIndexed (map : List (List Entry)) (cbMap : List (List (Byte → Instr))) (b0 : Byte) :
    List Byte → Except DecodeError (Instr × List Byte)
  | [] => .error .truncated
  | b1 :: rest => if b1 = 0xCB then takeIndexedCb cbMap b0 b1 rest else takeAt map b0 b1 b1 rest

/-- The second byte of a `CB` or `ED` format (R89, R90). -/
def takePrefixed (map : List (List Entry)) (b0 : Byte) : List Byte → Except DecodeError (Instr × List Byte)
  | [] => .error .truncated
  | b1 :: rest => takeAt map b0 b1 b1 rest

/-- The decoder (R95): the instruction at the head of a byte stream and the rest of the stream. -/
def decode : List Byte → Except DecodeError (Instr × List Byte)
  | [] => .error .truncated
  | b0 :: rest =>
    if b0 = 0xCB then takePrefixed cbMap b0 rest
    else if b0 = 0xED then takePrefixed edMap b0 rest
    else if b0 = 0xDD then takeIndexed ddMap ddcbMap b0 rest
    else if b0 = 0xFD then takeIndexed fdMap fdcbMap b0 rest
    else takeAt mainMap b0 0 b0 rest

end

/-- The bytes of an instruction, from the rows of opcode_table.json (R80, R104). -/
def encode (i : Instr) : List Byte :=
  match i with
  | .nop => [0x00]
  | .ld_bc_nn nn => [0x01, lowByte nn, highByte nn]
  | .ld_mbc_a => [0x02]
  | .inc_bc => [0x03]
  | .inc_b => [0x04]
  | .dec_b => [0x05]
  | .ld_b_n n => [0x06, n]
  | .rlca => [0x07]
  | .ex_af_af => [0x08]
  | .add_hl_bc => [0x09]
  | .ld_a_mbc => [0x0A]
  | .dec_bc => [0x0B]
  | .inc_c => [0x0C]
  | .dec_c => [0x0D]
  | .ld_c_n n => [0x0E, n]
  | .rrca => [0x0F]
  | .djnz_e e => [0x10, e]
  | .ld_de_nn nn => [0x11, lowByte nn, highByte nn]
  | .ld_mde_a => [0x12]
  | .inc_de => [0x13]
  | .inc_d => [0x14]
  | .dec_d => [0x15]
  | .ld_d_n n => [0x16, n]
  | .rla => [0x17]
  | .jr_e e => [0x18, e]
  | .add_hl_de => [0x19]
  | .ld_a_mde => [0x1A]
  | .dec_de => [0x1B]
  | .inc_e => [0x1C]
  | .dec_e => [0x1D]
  | .ld_e_n n => [0x1E, n]
  | .rra => [0x1F]
  | .jr_nz_e e => [0x20, e]
  | .ld_hl_nn nn => [0x21, lowByte nn, highByte nn]
  | .ld_mnn_hl ed nn => if ed then [0xED, 0x63, lowByte nn, highByte nn] else [0x22, lowByte nn, highByte nn]
  | .inc_hl => [0x23]
  | .inc_h => [0x24]
  | .dec_h => [0x25]
  | .ld_h_n n => [0x26, n]
  | .daa => [0x27]
  | .jr_z_e e => [0x28, e]
  | .add_hl_hl => [0x29]
  | .ld_hl_mnn ed nn => if ed then [0xED, 0x6B, lowByte nn, highByte nn] else [0x2A, lowByte nn, highByte nn]
  | .dec_hl => [0x2B]
  | .inc_l => [0x2C]
  | .dec_l => [0x2D]
  | .ld_l_n n => [0x2E, n]
  | .cpl => [0x2F]
  | .jr_nc_e e => [0x30, e]
  | .ld_sp_nn nn => [0x31, lowByte nn, highByte nn]
  | .ld_mnn_a nn => [0x32, lowByte nn, highByte nn]
  | .inc_sp => [0x33]
  | .inc_mhl => [0x34]
  | .dec_mhl => [0x35]
  | .ld_mhl_n n => [0x36, n]
  | .scf => [0x37]
  | .jr_c_e e => [0x38, e]
  | .add_hl_sp => [0x39]
  | .ld_a_mnn nn => [0x3A, lowByte nn, highByte nn]
  | .dec_sp => [0x3B]
  | .inc_a => [0x3C]
  | .dec_a => [0x3D]
  | .ld_a_n n => [0x3E, n]
  | .ccf => [0x3F]
  | .ld_b_b => [0x40]
  | .ld_b_c => [0x41]
  | .ld_b_d => [0x42]
  | .ld_b_e => [0x43]
  | .ld_b_h => [0x44]
  | .ld_b_l => [0x45]
  | .ld_b_mhl => [0x46]
  | .ld_b_a => [0x47]
  | .ld_c_b => [0x48]
  | .ld_c_c => [0x49]
  | .ld_c_d => [0x4A]
  | .ld_c_e => [0x4B]
  | .ld_c_h => [0x4C]
  | .ld_c_l => [0x4D]
  | .ld_c_mhl => [0x4E]
  | .ld_c_a => [0x4F]
  | .ld_d_b => [0x50]
  | .ld_d_c => [0x51]
  | .ld_d_d => [0x52]
  | .ld_d_e => [0x53]
  | .ld_d_h => [0x54]
  | .ld_d_l => [0x55]
  | .ld_d_mhl => [0x56]
  | .ld_d_a => [0x57]
  | .ld_e_b => [0x58]
  | .ld_e_c => [0x59]
  | .ld_e_d => [0x5A]
  | .ld_e_e => [0x5B]
  | .ld_e_h => [0x5C]
  | .ld_e_l => [0x5D]
  | .ld_e_mhl => [0x5E]
  | .ld_e_a => [0x5F]
  | .ld_h_b => [0x60]
  | .ld_h_c => [0x61]
  | .ld_h_d => [0x62]
  | .ld_h_e => [0x63]
  | .ld_h_h => [0x64]
  | .ld_h_l => [0x65]
  | .ld_h_mhl => [0x66]
  | .ld_h_a => [0x67]
  | .ld_l_b => [0x68]
  | .ld_l_c => [0x69]
  | .ld_l_d => [0x6A]
  | .ld_l_e => [0x6B]
  | .ld_l_h => [0x6C]
  | .ld_l_l => [0x6D]
  | .ld_l_mhl => [0x6E]
  | .ld_l_a => [0x6F]
  | .ld_mhl_b => [0x70]
  | .ld_mhl_c => [0x71]
  | .ld_mhl_d => [0x72]
  | .ld_mhl_e => [0x73]
  | .ld_mhl_h => [0x74]
  | .ld_mhl_l => [0x75]
  | .halt => [0x76]
  | .ld_mhl_a => [0x77]
  | .ld_a_b => [0x78]
  | .ld_a_c => [0x79]
  | .ld_a_d => [0x7A]
  | .ld_a_e => [0x7B]
  | .ld_a_h => [0x7C]
  | .ld_a_l => [0x7D]
  | .ld_a_mhl => [0x7E]
  | .ld_a_a => [0x7F]
  | .add_a_b => [0x80]
  | .add_a_c => [0x81]
  | .add_a_d => [0x82]
  | .add_a_e => [0x83]
  | .add_a_h => [0x84]
  | .add_a_l => [0x85]
  | .add_a_mhl => [0x86]
  | .add_a_a => [0x87]
  | .adc_a_b => [0x88]
  | .adc_a_c => [0x89]
  | .adc_a_d => [0x8A]
  | .adc_a_e => [0x8B]
  | .adc_a_h => [0x8C]
  | .adc_a_l => [0x8D]
  | .adc_a_mhl => [0x8E]
  | .adc_a_a => [0x8F]
  | .sub_b => [0x90]
  | .sub_c => [0x91]
  | .sub_d => [0x92]
  | .sub_e => [0x93]
  | .sub_h => [0x94]
  | .sub_l => [0x95]
  | .sub_mhl => [0x96]
  | .sub_a => [0x97]
  | .sbc_a_b => [0x98]
  | .sbc_a_c => [0x99]
  | .sbc_a_d => [0x9A]
  | .sbc_a_e => [0x9B]
  | .sbc_a_h => [0x9C]
  | .sbc_a_l => [0x9D]
  | .sbc_a_mhl => [0x9E]
  | .sbc_a_a => [0x9F]
  | .and_b => [0xA0]
  | .and_c => [0xA1]
  | .and_d => [0xA2]
  | .and_e => [0xA3]
  | .and_h => [0xA4]
  | .and_l => [0xA5]
  | .and_mhl => [0xA6]
  | .and_a => [0xA7]
  | .xor_b => [0xA8]
  | .xor_c => [0xA9]
  | .xor_d => [0xAA]
  | .xor_e => [0xAB]
  | .xor_h => [0xAC]
  | .xor_l => [0xAD]
  | .xor_mhl => [0xAE]
  | .xor_a => [0xAF]
  | .or_b => [0xB0]
  | .or_c => [0xB1]
  | .or_d => [0xB2]
  | .or_e => [0xB3]
  | .or_h => [0xB4]
  | .or_l => [0xB5]
  | .or_mhl => [0xB6]
  | .or_a => [0xB7]
  | .cp_b => [0xB8]
  | .cp_c => [0xB9]
  | .cp_d => [0xBA]
  | .cp_e => [0xBB]
  | .cp_h => [0xBC]
  | .cp_l => [0xBD]
  | .cp_mhl => [0xBE]
  | .cp_a => [0xBF]
  | .ret_nz => [0xC0]
  | .pop_bc => [0xC1]
  | .jp_nz_nn nn => [0xC2, lowByte nn, highByte nn]
  | .jp_nn nn => [0xC3, lowByte nn, highByte nn]
  | .call_nz_nn nn => [0xC4, lowByte nn, highByte nn]
  | .push_bc => [0xC5]
  | .add_a_n n => [0xC6, n]
  | .rst_00h => [0xC7]
  | .ret_z => [0xC8]
  | .ret => [0xC9]
  | .jp_z_nn nn => [0xCA, lowByte nn, highByte nn]
  | .call_z_nn nn => [0xCC, lowByte nn, highByte nn]
  | .call_nn nn => [0xCD, lowByte nn, highByte nn]
  | .adc_a_n n => [0xCE, n]
  | .rst_08h => [0xCF]
  | .ret_nc => [0xD0]
  | .pop_de => [0xD1]
  | .jp_nc_nn nn => [0xD2, lowByte nn, highByte nn]
  | .out_mn_a n => [0xD3, n]
  | .call_nc_nn nn => [0xD4, lowByte nn, highByte nn]
  | .push_de => [0xD5]
  | .sub_n n => [0xD6, n]
  | .rst_10h => [0xD7]
  | .ret_c => [0xD8]
  | .exx => [0xD9]
  | .jp_c_nn nn => [0xDA, lowByte nn, highByte nn]
  | .in_a_mn n => [0xDB, n]
  | .call_c_nn nn => [0xDC, lowByte nn, highByte nn]
  | .sbc_a_n n => [0xDE, n]
  | .rst_18h => [0xDF]
  | .ret_po => [0xE0]
  | .pop_hl => [0xE1]
  | .jp_po_nn nn => [0xE2, lowByte nn, highByte nn]
  | .ex_msp_hl => [0xE3]
  | .call_po_nn nn => [0xE4, lowByte nn, highByte nn]
  | .push_hl => [0xE5]
  | .and_n n => [0xE6, n]
  | .rst_20h => [0xE7]
  | .ret_pe => [0xE8]
  | .jp_mhl => [0xE9]
  | .jp_pe_nn nn => [0xEA, lowByte nn, highByte nn]
  | .ex_de_hl => [0xEB]
  | .call_pe_nn nn => [0xEC, lowByte nn, highByte nn]
  | .xor_n n => [0xEE, n]
  | .rst_28h => [0xEF]
  | .ret_p => [0xF0]
  | .pop_af => [0xF1]
  | .jp_p_nn nn => [0xF2, lowByte nn, highByte nn]
  | .di => [0xF3]
  | .call_p_nn nn => [0xF4, lowByte nn, highByte nn]
  | .push_af => [0xF5]
  | .or_n n => [0xF6, n]
  | .rst_30h => [0xF7]
  | .ret_m => [0xF8]
  | .ld_sp_hl => [0xF9]
  | .jp_m_nn nn => [0xFA, lowByte nn, highByte nn]
  | .ei => [0xFB]
  | .call_m_nn nn => [0xFC, lowByte nn, highByte nn]
  | .cp_n n => [0xFE, n]
  | .rst_38h => [0xFF]
  | .rlc_b => [0xCB, 0x00]
  | .rlc_c => [0xCB, 0x01]
  | .rlc_d => [0xCB, 0x02]
  | .rlc_e => [0xCB, 0x03]
  | .rlc_h => [0xCB, 0x04]
  | .rlc_l => [0xCB, 0x05]
  | .rlc_mhl => [0xCB, 0x06]
  | .rlc_a => [0xCB, 0x07]
  | .rrc_b => [0xCB, 0x08]
  | .rrc_c => [0xCB, 0x09]
  | .rrc_d => [0xCB, 0x0A]
  | .rrc_e => [0xCB, 0x0B]
  | .rrc_h => [0xCB, 0x0C]
  | .rrc_l => [0xCB, 0x0D]
  | .rrc_mhl => [0xCB, 0x0E]
  | .rrc_a => [0xCB, 0x0F]
  | .rl_b => [0xCB, 0x10]
  | .rl_c => [0xCB, 0x11]
  | .rl_d => [0xCB, 0x12]
  | .rl_e => [0xCB, 0x13]
  | .rl_h => [0xCB, 0x14]
  | .rl_l => [0xCB, 0x15]
  | .rl_mhl => [0xCB, 0x16]
  | .rl_a => [0xCB, 0x17]
  | .rr_b => [0xCB, 0x18]
  | .rr_c => [0xCB, 0x19]
  | .rr_d => [0xCB, 0x1A]
  | .rr_e => [0xCB, 0x1B]
  | .rr_h => [0xCB, 0x1C]
  | .rr_l => [0xCB, 0x1D]
  | .rr_mhl => [0xCB, 0x1E]
  | .rr_a => [0xCB, 0x1F]
  | .sla_b => [0xCB, 0x20]
  | .sla_c => [0xCB, 0x21]
  | .sla_d => [0xCB, 0x22]
  | .sla_e => [0xCB, 0x23]
  | .sla_h => [0xCB, 0x24]
  | .sla_l => [0xCB, 0x25]
  | .sla_mhl => [0xCB, 0x26]
  | .sla_a => [0xCB, 0x27]
  | .sra_b => [0xCB, 0x28]
  | .sra_c => [0xCB, 0x29]
  | .sra_d => [0xCB, 0x2A]
  | .sra_e => [0xCB, 0x2B]
  | .sra_h => [0xCB, 0x2C]
  | .sra_l => [0xCB, 0x2D]
  | .sra_mhl => [0xCB, 0x2E]
  | .sra_a => [0xCB, 0x2F]
  | .sll_b => [0xCB, 0x30]
  | .sll_c => [0xCB, 0x31]
  | .sll_d => [0xCB, 0x32]
  | .sll_e => [0xCB, 0x33]
  | .sll_h => [0xCB, 0x34]
  | .sll_l => [0xCB, 0x35]
  | .sll_mhl => [0xCB, 0x36]
  | .sll_a => [0xCB, 0x37]
  | .srl_b => [0xCB, 0x38]
  | .srl_c => [0xCB, 0x39]
  | .srl_d => [0xCB, 0x3A]
  | .srl_e => [0xCB, 0x3B]
  | .srl_h => [0xCB, 0x3C]
  | .srl_l => [0xCB, 0x3D]
  | .srl_mhl => [0xCB, 0x3E]
  | .srl_a => [0xCB, 0x3F]
  | .bit_0_b => [0xCB, 0x40]
  | .bit_0_c => [0xCB, 0x41]
  | .bit_0_d => [0xCB, 0x42]
  | .bit_0_e => [0xCB, 0x43]
  | .bit_0_h => [0xCB, 0x44]
  | .bit_0_l => [0xCB, 0x45]
  | .bit_0_mhl => [0xCB, 0x46]
  | .bit_0_a => [0xCB, 0x47]
  | .bit_1_b => [0xCB, 0x48]
  | .bit_1_c => [0xCB, 0x49]
  | .bit_1_d => [0xCB, 0x4A]
  | .bit_1_e => [0xCB, 0x4B]
  | .bit_1_h => [0xCB, 0x4C]
  | .bit_1_l => [0xCB, 0x4D]
  | .bit_1_mhl => [0xCB, 0x4E]
  | .bit_1_a => [0xCB, 0x4F]
  | .bit_2_b => [0xCB, 0x50]
  | .bit_2_c => [0xCB, 0x51]
  | .bit_2_d => [0xCB, 0x52]
  | .bit_2_e => [0xCB, 0x53]
  | .bit_2_h => [0xCB, 0x54]
  | .bit_2_l => [0xCB, 0x55]
  | .bit_2_mhl => [0xCB, 0x56]
  | .bit_2_a => [0xCB, 0x57]
  | .bit_3_b => [0xCB, 0x58]
  | .bit_3_c => [0xCB, 0x59]
  | .bit_3_d => [0xCB, 0x5A]
  | .bit_3_e => [0xCB, 0x5B]
  | .bit_3_h => [0xCB, 0x5C]
  | .bit_3_l => [0xCB, 0x5D]
  | .bit_3_mhl => [0xCB, 0x5E]
  | .bit_3_a => [0xCB, 0x5F]
  | .bit_4_b => [0xCB, 0x60]
  | .bit_4_c => [0xCB, 0x61]
  | .bit_4_d => [0xCB, 0x62]
  | .bit_4_e => [0xCB, 0x63]
  | .bit_4_h => [0xCB, 0x64]
  | .bit_4_l => [0xCB, 0x65]
  | .bit_4_mhl => [0xCB, 0x66]
  | .bit_4_a => [0xCB, 0x67]
  | .bit_5_b => [0xCB, 0x68]
  | .bit_5_c => [0xCB, 0x69]
  | .bit_5_d => [0xCB, 0x6A]
  | .bit_5_e => [0xCB, 0x6B]
  | .bit_5_h => [0xCB, 0x6C]
  | .bit_5_l => [0xCB, 0x6D]
  | .bit_5_mhl => [0xCB, 0x6E]
  | .bit_5_a => [0xCB, 0x6F]
  | .bit_6_b => [0xCB, 0x70]
  | .bit_6_c => [0xCB, 0x71]
  | .bit_6_d => [0xCB, 0x72]
  | .bit_6_e => [0xCB, 0x73]
  | .bit_6_h => [0xCB, 0x74]
  | .bit_6_l => [0xCB, 0x75]
  | .bit_6_mhl => [0xCB, 0x76]
  | .bit_6_a => [0xCB, 0x77]
  | .bit_7_b => [0xCB, 0x78]
  | .bit_7_c => [0xCB, 0x79]
  | .bit_7_d => [0xCB, 0x7A]
  | .bit_7_e => [0xCB, 0x7B]
  | .bit_7_h => [0xCB, 0x7C]
  | .bit_7_l => [0xCB, 0x7D]
  | .bit_7_mhl => [0xCB, 0x7E]
  | .bit_7_a => [0xCB, 0x7F]
  | .res_0_b => [0xCB, 0x80]
  | .res_0_c => [0xCB, 0x81]
  | .res_0_d => [0xCB, 0x82]
  | .res_0_e => [0xCB, 0x83]
  | .res_0_h => [0xCB, 0x84]
  | .res_0_l => [0xCB, 0x85]
  | .res_0_mhl => [0xCB, 0x86]
  | .res_0_a => [0xCB, 0x87]
  | .res_1_b => [0xCB, 0x88]
  | .res_1_c => [0xCB, 0x89]
  | .res_1_d => [0xCB, 0x8A]
  | .res_1_e => [0xCB, 0x8B]
  | .res_1_h => [0xCB, 0x8C]
  | .res_1_l => [0xCB, 0x8D]
  | .res_1_mhl => [0xCB, 0x8E]
  | .res_1_a => [0xCB, 0x8F]
  | .res_2_b => [0xCB, 0x90]
  | .res_2_c => [0xCB, 0x91]
  | .res_2_d => [0xCB, 0x92]
  | .res_2_e => [0xCB, 0x93]
  | .res_2_h => [0xCB, 0x94]
  | .res_2_l => [0xCB, 0x95]
  | .res_2_mhl => [0xCB, 0x96]
  | .res_2_a => [0xCB, 0x97]
  | .res_3_b => [0xCB, 0x98]
  | .res_3_c => [0xCB, 0x99]
  | .res_3_d => [0xCB, 0x9A]
  | .res_3_e => [0xCB, 0x9B]
  | .res_3_h => [0xCB, 0x9C]
  | .res_3_l => [0xCB, 0x9D]
  | .res_3_mhl => [0xCB, 0x9E]
  | .res_3_a => [0xCB, 0x9F]
  | .res_4_b => [0xCB, 0xA0]
  | .res_4_c => [0xCB, 0xA1]
  | .res_4_d => [0xCB, 0xA2]
  | .res_4_e => [0xCB, 0xA3]
  | .res_4_h => [0xCB, 0xA4]
  | .res_4_l => [0xCB, 0xA5]
  | .res_4_mhl => [0xCB, 0xA6]
  | .res_4_a => [0xCB, 0xA7]
  | .res_5_b => [0xCB, 0xA8]
  | .res_5_c => [0xCB, 0xA9]
  | .res_5_d => [0xCB, 0xAA]
  | .res_5_e => [0xCB, 0xAB]
  | .res_5_h => [0xCB, 0xAC]
  | .res_5_l => [0xCB, 0xAD]
  | .res_5_mhl => [0xCB, 0xAE]
  | .res_5_a => [0xCB, 0xAF]
  | .res_6_b => [0xCB, 0xB0]
  | .res_6_c => [0xCB, 0xB1]
  | .res_6_d => [0xCB, 0xB2]
  | .res_6_e => [0xCB, 0xB3]
  | .res_6_h => [0xCB, 0xB4]
  | .res_6_l => [0xCB, 0xB5]
  | .res_6_mhl => [0xCB, 0xB6]
  | .res_6_a => [0xCB, 0xB7]
  | .res_7_b => [0xCB, 0xB8]
  | .res_7_c => [0xCB, 0xB9]
  | .res_7_d => [0xCB, 0xBA]
  | .res_7_e => [0xCB, 0xBB]
  | .res_7_h => [0xCB, 0xBC]
  | .res_7_l => [0xCB, 0xBD]
  | .res_7_mhl => [0xCB, 0xBE]
  | .res_7_a => [0xCB, 0xBF]
  | .set_0_b => [0xCB, 0xC0]
  | .set_0_c => [0xCB, 0xC1]
  | .set_0_d => [0xCB, 0xC2]
  | .set_0_e => [0xCB, 0xC3]
  | .set_0_h => [0xCB, 0xC4]
  | .set_0_l => [0xCB, 0xC5]
  | .set_0_mhl => [0xCB, 0xC6]
  | .set_0_a => [0xCB, 0xC7]
  | .set_1_b => [0xCB, 0xC8]
  | .set_1_c => [0xCB, 0xC9]
  | .set_1_d => [0xCB, 0xCA]
  | .set_1_e => [0xCB, 0xCB]
  | .set_1_h => [0xCB, 0xCC]
  | .set_1_l => [0xCB, 0xCD]
  | .set_1_mhl => [0xCB, 0xCE]
  | .set_1_a => [0xCB, 0xCF]
  | .set_2_b => [0xCB, 0xD0]
  | .set_2_c => [0xCB, 0xD1]
  | .set_2_d => [0xCB, 0xD2]
  | .set_2_e => [0xCB, 0xD3]
  | .set_2_h => [0xCB, 0xD4]
  | .set_2_l => [0xCB, 0xD5]
  | .set_2_mhl => [0xCB, 0xD6]
  | .set_2_a => [0xCB, 0xD7]
  | .set_3_b => [0xCB, 0xD8]
  | .set_3_c => [0xCB, 0xD9]
  | .set_3_d => [0xCB, 0xDA]
  | .set_3_e => [0xCB, 0xDB]
  | .set_3_h => [0xCB, 0xDC]
  | .set_3_l => [0xCB, 0xDD]
  | .set_3_mhl => [0xCB, 0xDE]
  | .set_3_a => [0xCB, 0xDF]
  | .set_4_b => [0xCB, 0xE0]
  | .set_4_c => [0xCB, 0xE1]
  | .set_4_d => [0xCB, 0xE2]
  | .set_4_e => [0xCB, 0xE3]
  | .set_4_h => [0xCB, 0xE4]
  | .set_4_l => [0xCB, 0xE5]
  | .set_4_mhl => [0xCB, 0xE6]
  | .set_4_a => [0xCB, 0xE7]
  | .set_5_b => [0xCB, 0xE8]
  | .set_5_c => [0xCB, 0xE9]
  | .set_5_d => [0xCB, 0xEA]
  | .set_5_e => [0xCB, 0xEB]
  | .set_5_h => [0xCB, 0xEC]
  | .set_5_l => [0xCB, 0xED]
  | .set_5_mhl => [0xCB, 0xEE]
  | .set_5_a => [0xCB, 0xEF]
  | .set_6_b => [0xCB, 0xF0]
  | .set_6_c => [0xCB, 0xF1]
  | .set_6_d => [0xCB, 0xF2]
  | .set_6_e => [0xCB, 0xF3]
  | .set_6_h => [0xCB, 0xF4]
  | .set_6_l => [0xCB, 0xF5]
  | .set_6_mhl => [0xCB, 0xF6]
  | .set_6_a => [0xCB, 0xF7]
  | .set_7_b => [0xCB, 0xF8]
  | .set_7_c => [0xCB, 0xF9]
  | .set_7_d => [0xCB, 0xFA]
  | .set_7_e => [0xCB, 0xFB]
  | .set_7_h => [0xCB, 0xFC]
  | .set_7_l => [0xCB, 0xFD]
  | .set_7_mhl => [0xCB, 0xFE]
  | .set_7_a => [0xCB, 0xFF]
  | .in_b_mc => [0xED, 0x40]
  | .out_mc_b => [0xED, 0x41]
  | .sbc_hl_bc => [0xED, 0x42]
  | .ld_mnn_bc nn => [0xED, 0x43, lowByte nn, highByte nn]
  | .neg y => [0xED, 0x44 ||| (y.zeroExtend 8 <<< 3)]
  | .retn y => [0xED, 0x45 ||| (y.zeroExtend 8 <<< 3)]
  | .im_0 y => [0xED, 0x46 ||| (y.zeroExtend 8 <<< 3)]
  | .ld_i_a => [0xED, 0x47]
  | .in_c_mc => [0xED, 0x48]
  | .out_mc_c => [0xED, 0x49]
  | .adc_hl_bc => [0xED, 0x4A]
  | .ld_bc_mnn nn => [0xED, 0x4B, lowByte nn, highByte nn]
  | .reti => [0xED, 0x4D]
  | .im_0_1 y => [0xED, 0x46 ||| (y.zeroExtend 8 <<< 3)]
  | .ld_r_a => [0xED, 0x4F]
  | .in_d_mc => [0xED, 0x50]
  | .out_mc_d => [0xED, 0x51]
  | .sbc_hl_de => [0xED, 0x52]
  | .ld_mnn_de nn => [0xED, 0x53, lowByte nn, highByte nn]
  | .im_1 y => [0xED, 0x46 ||| (y.zeroExtend 8 <<< 3)]
  | .ld_a_i => [0xED, 0x57]
  | .in_e_mc => [0xED, 0x58]
  | .out_mc_e => [0xED, 0x59]
  | .adc_hl_de => [0xED, 0x5A]
  | .ld_de_mnn nn => [0xED, 0x5B, lowByte nn, highByte nn]
  | .im_2 y => [0xED, 0x46 ||| (y.zeroExtend 8 <<< 3)]
  | .ld_a_r => [0xED, 0x5F]
  | .in_h_mc => [0xED, 0x60]
  | .out_mc_h => [0xED, 0x61]
  | .sbc_hl_hl => [0xED, 0x62]
  | .rrd => [0xED, 0x67]
  | .in_l_mc => [0xED, 0x68]
  | .out_mc_l => [0xED, 0x69]
  | .adc_hl_hl => [0xED, 0x6A]
  | .rld => [0xED, 0x6F]
  | .in_mc => [0xED, 0x70]
  | .out_mc_0 => [0xED, 0x71]
  | .sbc_hl_sp => [0xED, 0x72]
  | .ld_mnn_sp nn => [0xED, 0x73, lowByte nn, highByte nn]
  | .in_a_mc => [0xED, 0x78]
  | .out_mc_a => [0xED, 0x79]
  | .adc_hl_sp => [0xED, 0x7A]
  | .ld_sp_mnn nn => [0xED, 0x7B, lowByte nn, highByte nn]
  | .ldi => [0xED, 0xA0]
  | .cpi => [0xED, 0xA1]
  | .ini => [0xED, 0xA2]
  | .outi => [0xED, 0xA3]
  | .ldd => [0xED, 0xA8]
  | .cpd => [0xED, 0xA9]
  | .ind => [0xED, 0xAA]
  | .outd => [0xED, 0xAB]
  | .ldir => [0xED, 0xB0]
  | .cpir => [0xED, 0xB1]
  | .inir => [0xED, 0xB2]
  | .otir => [0xED, 0xB3]
  | .lddr => [0xED, 0xB8]
  | .cpdr => [0xED, 0xB9]
  | .indr => [0xED, 0xBA]
  | .otdr => [0xED, 0xBB]
  | .add_ix_bc => [0xDD, 0x09]
  | .add_ix_de => [0xDD, 0x19]
  | .ld_ix_nn nn => [0xDD, 0x21, lowByte nn, highByte nn]
  | .ld_mnn_ix nn => [0xDD, 0x22, lowByte nn, highByte nn]
  | .inc_ix => [0xDD, 0x23]
  | .inc_ixh => [0xDD, 0x24]
  | .dec_ixh => [0xDD, 0x25]
  | .ld_ixh_n n => [0xDD, 0x26, n]
  | .add_ix_ix => [0xDD, 0x29]
  | .ld_ix_mnn nn => [0xDD, 0x2A, lowByte nn, highByte nn]
  | .dec_ix => [0xDD, 0x2B]
  | .inc_ixl => [0xDD, 0x2C]
  | .dec_ixl => [0xDD, 0x2D]
  | .ld_ixl_n n => [0xDD, 0x2E, n]
  | .inc_mixd d => [0xDD, 0x34, d]
  | .dec_mixd d => [0xDD, 0x35, d]
  | .ld_mixd_n d n => [0xDD, 0x36, d, n]
  | .add_ix_sp => [0xDD, 0x39]
  | .ld_b_ixh => [0xDD, 0x44]
  | .ld_b_ixl => [0xDD, 0x45]
  | .ld_b_mixd d => [0xDD, 0x46, d]
  | .ld_c_ixh => [0xDD, 0x4C]
  | .ld_c_ixl => [0xDD, 0x4D]
  | .ld_c_mixd d => [0xDD, 0x4E, d]
  | .ld_d_ixh => [0xDD, 0x54]
  | .ld_d_ixl => [0xDD, 0x55]
  | .ld_d_mixd d => [0xDD, 0x56, d]
  | .ld_e_ixh => [0xDD, 0x5C]
  | .ld_e_ixl => [0xDD, 0x5D]
  | .ld_e_mixd d => [0xDD, 0x5E, d]
  | .ld_ixh_b => [0xDD, 0x60]
  | .ld_ixh_c => [0xDD, 0x61]
  | .ld_ixh_d => [0xDD, 0x62]
  | .ld_ixh_e => [0xDD, 0x63]
  | .ld_ixh_ixh => [0xDD, 0x64]
  | .ld_ixh_ixl => [0xDD, 0x65]
  | .ld_h_mixd d => [0xDD, 0x66, d]
  | .ld_ixh_a => [0xDD, 0x67]
  | .ld_ixl_b => [0xDD, 0x68]
  | .ld_ixl_c => [0xDD, 0x69]
  | .ld_ixl_d => [0xDD, 0x6A]
  | .ld_ixl_e => [0xDD, 0x6B]
  | .ld_ixl_ixh => [0xDD, 0x6C]
  | .ld_ixl_ixl => [0xDD, 0x6D]
  | .ld_l_mixd d => [0xDD, 0x6E, d]
  | .ld_ixl_a => [0xDD, 0x6F]
  | .ld_mixd_b d => [0xDD, 0x70, d]
  | .ld_mixd_c d => [0xDD, 0x71, d]
  | .ld_mixd_d d => [0xDD, 0x72, d]
  | .ld_mixd_e d => [0xDD, 0x73, d]
  | .ld_mixd_h d => [0xDD, 0x74, d]
  | .ld_mixd_l d => [0xDD, 0x75, d]
  | .ld_mixd_a d => [0xDD, 0x77, d]
  | .ld_a_ixh => [0xDD, 0x7C]
  | .ld_a_ixl => [0xDD, 0x7D]
  | .ld_a_mixd d => [0xDD, 0x7E, d]
  | .add_a_ixh => [0xDD, 0x84]
  | .add_a_ixl => [0xDD, 0x85]
  | .add_a_mixd d => [0xDD, 0x86, d]
  | .adc_a_ixh => [0xDD, 0x8C]
  | .adc_a_ixl => [0xDD, 0x8D]
  | .adc_a_mixd d => [0xDD, 0x8E, d]
  | .sub_ixh => [0xDD, 0x94]
  | .sub_ixl => [0xDD, 0x95]
  | .sub_mixd d => [0xDD, 0x96, d]
  | .sbc_a_ixh => [0xDD, 0x9C]
  | .sbc_a_ixl => [0xDD, 0x9D]
  | .sbc_a_mixd d => [0xDD, 0x9E, d]
  | .and_ixh => [0xDD, 0xA4]
  | .and_ixl => [0xDD, 0xA5]
  | .and_mixd d => [0xDD, 0xA6, d]
  | .xor_ixh => [0xDD, 0xAC]
  | .xor_ixl => [0xDD, 0xAD]
  | .xor_mixd d => [0xDD, 0xAE, d]
  | .or_ixh => [0xDD, 0xB4]
  | .or_ixl => [0xDD, 0xB5]
  | .or_mixd d => [0xDD, 0xB6, d]
  | .cp_ixh => [0xDD, 0xBC]
  | .cp_ixl => [0xDD, 0xBD]
  | .cp_mixd d => [0xDD, 0xBE, d]
  | .pop_ix => [0xDD, 0xE1]
  | .ex_msp_ix => [0xDD, 0xE3]
  | .push_ix => [0xDD, 0xE5]
  | .jp_mix => [0xDD, 0xE9]
  | .ld_sp_ix => [0xDD, 0xF9]
  | .rlc_mixd_b d => [0xDD, 0xCB, d, 0x00]
  | .rlc_mixd_c d => [0xDD, 0xCB, d, 0x01]
  | .rlc_mixd_d d => [0xDD, 0xCB, d, 0x02]
  | .rlc_mixd_e d => [0xDD, 0xCB, d, 0x03]
  | .rlc_mixd_h d => [0xDD, 0xCB, d, 0x04]
  | .rlc_mixd_l d => [0xDD, 0xCB, d, 0x05]
  | .rlc_mixd d => [0xDD, 0xCB, d, 0x06]
  | .rlc_mixd_a d => [0xDD, 0xCB, d, 0x07]
  | .rrc_mixd_b d => [0xDD, 0xCB, d, 0x08]
  | .rrc_mixd_c d => [0xDD, 0xCB, d, 0x09]
  | .rrc_mixd_d d => [0xDD, 0xCB, d, 0x0A]
  | .rrc_mixd_e d => [0xDD, 0xCB, d, 0x0B]
  | .rrc_mixd_h d => [0xDD, 0xCB, d, 0x0C]
  | .rrc_mixd_l d => [0xDD, 0xCB, d, 0x0D]
  | .rrc_mixd d => [0xDD, 0xCB, d, 0x0E]
  | .rrc_mixd_a d => [0xDD, 0xCB, d, 0x0F]
  | .rl_mixd_b d => [0xDD, 0xCB, d, 0x10]
  | .rl_mixd_c d => [0xDD, 0xCB, d, 0x11]
  | .rl_mixd_d d => [0xDD, 0xCB, d, 0x12]
  | .rl_mixd_e d => [0xDD, 0xCB, d, 0x13]
  | .rl_mixd_h d => [0xDD, 0xCB, d, 0x14]
  | .rl_mixd_l d => [0xDD, 0xCB, d, 0x15]
  | .rl_mixd d => [0xDD, 0xCB, d, 0x16]
  | .rl_mixd_a d => [0xDD, 0xCB, d, 0x17]
  | .rr_mixd_b d => [0xDD, 0xCB, d, 0x18]
  | .rr_mixd_c d => [0xDD, 0xCB, d, 0x19]
  | .rr_mixd_d d => [0xDD, 0xCB, d, 0x1A]
  | .rr_mixd_e d => [0xDD, 0xCB, d, 0x1B]
  | .rr_mixd_h d => [0xDD, 0xCB, d, 0x1C]
  | .rr_mixd_l d => [0xDD, 0xCB, d, 0x1D]
  | .rr_mixd d => [0xDD, 0xCB, d, 0x1E]
  | .rr_mixd_a d => [0xDD, 0xCB, d, 0x1F]
  | .sla_mixd_b d => [0xDD, 0xCB, d, 0x20]
  | .sla_mixd_c d => [0xDD, 0xCB, d, 0x21]
  | .sla_mixd_d d => [0xDD, 0xCB, d, 0x22]
  | .sla_mixd_e d => [0xDD, 0xCB, d, 0x23]
  | .sla_mixd_h d => [0xDD, 0xCB, d, 0x24]
  | .sla_mixd_l d => [0xDD, 0xCB, d, 0x25]
  | .sla_mixd d => [0xDD, 0xCB, d, 0x26]
  | .sla_mixd_a d => [0xDD, 0xCB, d, 0x27]
  | .sra_mixd_b d => [0xDD, 0xCB, d, 0x28]
  | .sra_mixd_c d => [0xDD, 0xCB, d, 0x29]
  | .sra_mixd_d d => [0xDD, 0xCB, d, 0x2A]
  | .sra_mixd_e d => [0xDD, 0xCB, d, 0x2B]
  | .sra_mixd_h d => [0xDD, 0xCB, d, 0x2C]
  | .sra_mixd_l d => [0xDD, 0xCB, d, 0x2D]
  | .sra_mixd d => [0xDD, 0xCB, d, 0x2E]
  | .sra_mixd_a d => [0xDD, 0xCB, d, 0x2F]
  | .sll_mixd_b d => [0xDD, 0xCB, d, 0x30]
  | .sll_mixd_c d => [0xDD, 0xCB, d, 0x31]
  | .sll_mixd_d d => [0xDD, 0xCB, d, 0x32]
  | .sll_mixd_e d => [0xDD, 0xCB, d, 0x33]
  | .sll_mixd_h d => [0xDD, 0xCB, d, 0x34]
  | .sll_mixd_l d => [0xDD, 0xCB, d, 0x35]
  | .sll_mixd d => [0xDD, 0xCB, d, 0x36]
  | .sll_mixd_a d => [0xDD, 0xCB, d, 0x37]
  | .srl_mixd_b d => [0xDD, 0xCB, d, 0x38]
  | .srl_mixd_c d => [0xDD, 0xCB, d, 0x39]
  | .srl_mixd_d d => [0xDD, 0xCB, d, 0x3A]
  | .srl_mixd_e d => [0xDD, 0xCB, d, 0x3B]
  | .srl_mixd_h d => [0xDD, 0xCB, d, 0x3C]
  | .srl_mixd_l d => [0xDD, 0xCB, d, 0x3D]
  | .srl_mixd d => [0xDD, 0xCB, d, 0x3E]
  | .srl_mixd_a d => [0xDD, 0xCB, d, 0x3F]
  | .bit_0_mixd d z => [0xDD, 0xCB, d, 0x40 ||| z.zeroExtend 8]
  | .bit_1_mixd d z => [0xDD, 0xCB, d, 0x48 ||| z.zeroExtend 8]
  | .bit_2_mixd d z => [0xDD, 0xCB, d, 0x50 ||| z.zeroExtend 8]
  | .bit_3_mixd d z => [0xDD, 0xCB, d, 0x58 ||| z.zeroExtend 8]
  | .bit_4_mixd d z => [0xDD, 0xCB, d, 0x60 ||| z.zeroExtend 8]
  | .bit_5_mixd d z => [0xDD, 0xCB, d, 0x68 ||| z.zeroExtend 8]
  | .bit_6_mixd d z => [0xDD, 0xCB, d, 0x70 ||| z.zeroExtend 8]
  | .bit_7_mixd d z => [0xDD, 0xCB, d, 0x78 ||| z.zeroExtend 8]
  | .res_0_mixd_b d => [0xDD, 0xCB, d, 0x80]
  | .res_0_mixd_c d => [0xDD, 0xCB, d, 0x81]
  | .res_0_mixd_d d => [0xDD, 0xCB, d, 0x82]
  | .res_0_mixd_e d => [0xDD, 0xCB, d, 0x83]
  | .res_0_mixd_h d => [0xDD, 0xCB, d, 0x84]
  | .res_0_mixd_l d => [0xDD, 0xCB, d, 0x85]
  | .res_0_mixd d => [0xDD, 0xCB, d, 0x86]
  | .res_0_mixd_a d => [0xDD, 0xCB, d, 0x87]
  | .res_1_mixd_b d => [0xDD, 0xCB, d, 0x88]
  | .res_1_mixd_c d => [0xDD, 0xCB, d, 0x89]
  | .res_1_mixd_d d => [0xDD, 0xCB, d, 0x8A]
  | .res_1_mixd_e d => [0xDD, 0xCB, d, 0x8B]
  | .res_1_mixd_h d => [0xDD, 0xCB, d, 0x8C]
  | .res_1_mixd_l d => [0xDD, 0xCB, d, 0x8D]
  | .res_1_mixd d => [0xDD, 0xCB, d, 0x8E]
  | .res_1_mixd_a d => [0xDD, 0xCB, d, 0x8F]
  | .res_2_mixd_b d => [0xDD, 0xCB, d, 0x90]
  | .res_2_mixd_c d => [0xDD, 0xCB, d, 0x91]
  | .res_2_mixd_d d => [0xDD, 0xCB, d, 0x92]
  | .res_2_mixd_e d => [0xDD, 0xCB, d, 0x93]
  | .res_2_mixd_h d => [0xDD, 0xCB, d, 0x94]
  | .res_2_mixd_l d => [0xDD, 0xCB, d, 0x95]
  | .res_2_mixd d => [0xDD, 0xCB, d, 0x96]
  | .res_2_mixd_a d => [0xDD, 0xCB, d, 0x97]
  | .res_3_mixd_b d => [0xDD, 0xCB, d, 0x98]
  | .res_3_mixd_c d => [0xDD, 0xCB, d, 0x99]
  | .res_3_mixd_d d => [0xDD, 0xCB, d, 0x9A]
  | .res_3_mixd_e d => [0xDD, 0xCB, d, 0x9B]
  | .res_3_mixd_h d => [0xDD, 0xCB, d, 0x9C]
  | .res_3_mixd_l d => [0xDD, 0xCB, d, 0x9D]
  | .res_3_mixd d => [0xDD, 0xCB, d, 0x9E]
  | .res_3_mixd_a d => [0xDD, 0xCB, d, 0x9F]
  | .res_4_mixd_b d => [0xDD, 0xCB, d, 0xA0]
  | .res_4_mixd_c d => [0xDD, 0xCB, d, 0xA1]
  | .res_4_mixd_d d => [0xDD, 0xCB, d, 0xA2]
  | .res_4_mixd_e d => [0xDD, 0xCB, d, 0xA3]
  | .res_4_mixd_h d => [0xDD, 0xCB, d, 0xA4]
  | .res_4_mixd_l d => [0xDD, 0xCB, d, 0xA5]
  | .res_4_mixd d => [0xDD, 0xCB, d, 0xA6]
  | .res_4_mixd_a d => [0xDD, 0xCB, d, 0xA7]
  | .res_5_mixd_b d => [0xDD, 0xCB, d, 0xA8]
  | .res_5_mixd_c d => [0xDD, 0xCB, d, 0xA9]
  | .res_5_mixd_d d => [0xDD, 0xCB, d, 0xAA]
  | .res_5_mixd_e d => [0xDD, 0xCB, d, 0xAB]
  | .res_5_mixd_h d => [0xDD, 0xCB, d, 0xAC]
  | .res_5_mixd_l d => [0xDD, 0xCB, d, 0xAD]
  | .res_5_mixd d => [0xDD, 0xCB, d, 0xAE]
  | .res_5_mixd_a d => [0xDD, 0xCB, d, 0xAF]
  | .res_6_mixd_b d => [0xDD, 0xCB, d, 0xB0]
  | .res_6_mixd_c d => [0xDD, 0xCB, d, 0xB1]
  | .res_6_mixd_d d => [0xDD, 0xCB, d, 0xB2]
  | .res_6_mixd_e d => [0xDD, 0xCB, d, 0xB3]
  | .res_6_mixd_h d => [0xDD, 0xCB, d, 0xB4]
  | .res_6_mixd_l d => [0xDD, 0xCB, d, 0xB5]
  | .res_6_mixd d => [0xDD, 0xCB, d, 0xB6]
  | .res_6_mixd_a d => [0xDD, 0xCB, d, 0xB7]
  | .res_7_mixd_b d => [0xDD, 0xCB, d, 0xB8]
  | .res_7_mixd_c d => [0xDD, 0xCB, d, 0xB9]
  | .res_7_mixd_d d => [0xDD, 0xCB, d, 0xBA]
  | .res_7_mixd_e d => [0xDD, 0xCB, d, 0xBB]
  | .res_7_mixd_h d => [0xDD, 0xCB, d, 0xBC]
  | .res_7_mixd_l d => [0xDD, 0xCB, d, 0xBD]
  | .res_7_mixd d => [0xDD, 0xCB, d, 0xBE]
  | .res_7_mixd_a d => [0xDD, 0xCB, d, 0xBF]
  | .set_0_mixd_b d => [0xDD, 0xCB, d, 0xC0]
  | .set_0_mixd_c d => [0xDD, 0xCB, d, 0xC1]
  | .set_0_mixd_d d => [0xDD, 0xCB, d, 0xC2]
  | .set_0_mixd_e d => [0xDD, 0xCB, d, 0xC3]
  | .set_0_mixd_h d => [0xDD, 0xCB, d, 0xC4]
  | .set_0_mixd_l d => [0xDD, 0xCB, d, 0xC5]
  | .set_0_mixd d => [0xDD, 0xCB, d, 0xC6]
  | .set_0_mixd_a d => [0xDD, 0xCB, d, 0xC7]
  | .set_1_mixd_b d => [0xDD, 0xCB, d, 0xC8]
  | .set_1_mixd_c d => [0xDD, 0xCB, d, 0xC9]
  | .set_1_mixd_d d => [0xDD, 0xCB, d, 0xCA]
  | .set_1_mixd_e d => [0xDD, 0xCB, d, 0xCB]
  | .set_1_mixd_h d => [0xDD, 0xCB, d, 0xCC]
  | .set_1_mixd_l d => [0xDD, 0xCB, d, 0xCD]
  | .set_1_mixd d => [0xDD, 0xCB, d, 0xCE]
  | .set_1_mixd_a d => [0xDD, 0xCB, d, 0xCF]
  | .set_2_mixd_b d => [0xDD, 0xCB, d, 0xD0]
  | .set_2_mixd_c d => [0xDD, 0xCB, d, 0xD1]
  | .set_2_mixd_d d => [0xDD, 0xCB, d, 0xD2]
  | .set_2_mixd_e d => [0xDD, 0xCB, d, 0xD3]
  | .set_2_mixd_h d => [0xDD, 0xCB, d, 0xD4]
  | .set_2_mixd_l d => [0xDD, 0xCB, d, 0xD5]
  | .set_2_mixd d => [0xDD, 0xCB, d, 0xD6]
  | .set_2_mixd_a d => [0xDD, 0xCB, d, 0xD7]
  | .set_3_mixd_b d => [0xDD, 0xCB, d, 0xD8]
  | .set_3_mixd_c d => [0xDD, 0xCB, d, 0xD9]
  | .set_3_mixd_d d => [0xDD, 0xCB, d, 0xDA]
  | .set_3_mixd_e d => [0xDD, 0xCB, d, 0xDB]
  | .set_3_mixd_h d => [0xDD, 0xCB, d, 0xDC]
  | .set_3_mixd_l d => [0xDD, 0xCB, d, 0xDD]
  | .set_3_mixd d => [0xDD, 0xCB, d, 0xDE]
  | .set_3_mixd_a d => [0xDD, 0xCB, d, 0xDF]
  | .set_4_mixd_b d => [0xDD, 0xCB, d, 0xE0]
  | .set_4_mixd_c d => [0xDD, 0xCB, d, 0xE1]
  | .set_4_mixd_d d => [0xDD, 0xCB, d, 0xE2]
  | .set_4_mixd_e d => [0xDD, 0xCB, d, 0xE3]
  | .set_4_mixd_h d => [0xDD, 0xCB, d, 0xE4]
  | .set_4_mixd_l d => [0xDD, 0xCB, d, 0xE5]
  | .set_4_mixd d => [0xDD, 0xCB, d, 0xE6]
  | .set_4_mixd_a d => [0xDD, 0xCB, d, 0xE7]
  | .set_5_mixd_b d => [0xDD, 0xCB, d, 0xE8]
  | .set_5_mixd_c d => [0xDD, 0xCB, d, 0xE9]
  | .set_5_mixd_d d => [0xDD, 0xCB, d, 0xEA]
  | .set_5_mixd_e d => [0xDD, 0xCB, d, 0xEB]
  | .set_5_mixd_h d => [0xDD, 0xCB, d, 0xEC]
  | .set_5_mixd_l d => [0xDD, 0xCB, d, 0xED]
  | .set_5_mixd d => [0xDD, 0xCB, d, 0xEE]
  | .set_5_mixd_a d => [0xDD, 0xCB, d, 0xEF]
  | .set_6_mixd_b d => [0xDD, 0xCB, d, 0xF0]
  | .set_6_mixd_c d => [0xDD, 0xCB, d, 0xF1]
  | .set_6_mixd_d d => [0xDD, 0xCB, d, 0xF2]
  | .set_6_mixd_e d => [0xDD, 0xCB, d, 0xF3]
  | .set_6_mixd_h d => [0xDD, 0xCB, d, 0xF4]
  | .set_6_mixd_l d => [0xDD, 0xCB, d, 0xF5]
  | .set_6_mixd d => [0xDD, 0xCB, d, 0xF6]
  | .set_6_mixd_a d => [0xDD, 0xCB, d, 0xF7]
  | .set_7_mixd_b d => [0xDD, 0xCB, d, 0xF8]
  | .set_7_mixd_c d => [0xDD, 0xCB, d, 0xF9]
  | .set_7_mixd_d d => [0xDD, 0xCB, d, 0xFA]
  | .set_7_mixd_e d => [0xDD, 0xCB, d, 0xFB]
  | .set_7_mixd_h d => [0xDD, 0xCB, d, 0xFC]
  | .set_7_mixd_l d => [0xDD, 0xCB, d, 0xFD]
  | .set_7_mixd d => [0xDD, 0xCB, d, 0xFE]
  | .set_7_mixd_a d => [0xDD, 0xCB, d, 0xFF]
  | .add_iy_bc => [0xFD, 0x09]
  | .add_iy_de => [0xFD, 0x19]
  | .ld_iy_nn nn => [0xFD, 0x21, lowByte nn, highByte nn]
  | .ld_mnn_iy nn => [0xFD, 0x22, lowByte nn, highByte nn]
  | .inc_iy => [0xFD, 0x23]
  | .inc_iyh => [0xFD, 0x24]
  | .dec_iyh => [0xFD, 0x25]
  | .ld_iyh_n n => [0xFD, 0x26, n]
  | .add_iy_iy => [0xFD, 0x29]
  | .ld_iy_mnn nn => [0xFD, 0x2A, lowByte nn, highByte nn]
  | .dec_iy => [0xFD, 0x2B]
  | .inc_iyl => [0xFD, 0x2C]
  | .dec_iyl => [0xFD, 0x2D]
  | .ld_iyl_n n => [0xFD, 0x2E, n]
  | .inc_miyd d => [0xFD, 0x34, d]
  | .dec_miyd d => [0xFD, 0x35, d]
  | .ld_miyd_n d n => [0xFD, 0x36, d, n]
  | .add_iy_sp => [0xFD, 0x39]
  | .ld_b_iyh => [0xFD, 0x44]
  | .ld_b_iyl => [0xFD, 0x45]
  | .ld_b_miyd d => [0xFD, 0x46, d]
  | .ld_c_iyh => [0xFD, 0x4C]
  | .ld_c_iyl => [0xFD, 0x4D]
  | .ld_c_miyd d => [0xFD, 0x4E, d]
  | .ld_d_iyh => [0xFD, 0x54]
  | .ld_d_iyl => [0xFD, 0x55]
  | .ld_d_miyd d => [0xFD, 0x56, d]
  | .ld_e_iyh => [0xFD, 0x5C]
  | .ld_e_iyl => [0xFD, 0x5D]
  | .ld_e_miyd d => [0xFD, 0x5E, d]
  | .ld_iyh_b => [0xFD, 0x60]
  | .ld_iyh_c => [0xFD, 0x61]
  | .ld_iyh_d => [0xFD, 0x62]
  | .ld_iyh_e => [0xFD, 0x63]
  | .ld_iyh_iyh => [0xFD, 0x64]
  | .ld_iyh_iyl => [0xFD, 0x65]
  | .ld_h_miyd d => [0xFD, 0x66, d]
  | .ld_iyh_a => [0xFD, 0x67]
  | .ld_iyl_b => [0xFD, 0x68]
  | .ld_iyl_c => [0xFD, 0x69]
  | .ld_iyl_d => [0xFD, 0x6A]
  | .ld_iyl_e => [0xFD, 0x6B]
  | .ld_iyl_iyh => [0xFD, 0x6C]
  | .ld_iyl_iyl => [0xFD, 0x6D]
  | .ld_l_miyd d => [0xFD, 0x6E, d]
  | .ld_iyl_a => [0xFD, 0x6F]
  | .ld_miyd_b d => [0xFD, 0x70, d]
  | .ld_miyd_c d => [0xFD, 0x71, d]
  | .ld_miyd_d d => [0xFD, 0x72, d]
  | .ld_miyd_e d => [0xFD, 0x73, d]
  | .ld_miyd_h d => [0xFD, 0x74, d]
  | .ld_miyd_l d => [0xFD, 0x75, d]
  | .ld_miyd_a d => [0xFD, 0x77, d]
  | .ld_a_iyh => [0xFD, 0x7C]
  | .ld_a_iyl => [0xFD, 0x7D]
  | .ld_a_miyd d => [0xFD, 0x7E, d]
  | .add_a_iyh => [0xFD, 0x84]
  | .add_a_iyl => [0xFD, 0x85]
  | .add_a_miyd d => [0xFD, 0x86, d]
  | .adc_a_iyh => [0xFD, 0x8C]
  | .adc_a_iyl => [0xFD, 0x8D]
  | .adc_a_miyd d => [0xFD, 0x8E, d]
  | .sub_iyh => [0xFD, 0x94]
  | .sub_iyl => [0xFD, 0x95]
  | .sub_miyd d => [0xFD, 0x96, d]
  | .sbc_a_iyh => [0xFD, 0x9C]
  | .sbc_a_iyl => [0xFD, 0x9D]
  | .sbc_a_miyd d => [0xFD, 0x9E, d]
  | .and_iyh => [0xFD, 0xA4]
  | .and_iyl => [0xFD, 0xA5]
  | .and_miyd d => [0xFD, 0xA6, d]
  | .xor_iyh => [0xFD, 0xAC]
  | .xor_iyl => [0xFD, 0xAD]
  | .xor_miyd d => [0xFD, 0xAE, d]
  | .or_iyh => [0xFD, 0xB4]
  | .or_iyl => [0xFD, 0xB5]
  | .or_miyd d => [0xFD, 0xB6, d]
  | .cp_iyh => [0xFD, 0xBC]
  | .cp_iyl => [0xFD, 0xBD]
  | .cp_miyd d => [0xFD, 0xBE, d]
  | .pop_iy => [0xFD, 0xE1]
  | .ex_msp_iy => [0xFD, 0xE3]
  | .push_iy => [0xFD, 0xE5]
  | .jp_miy => [0xFD, 0xE9]
  | .ld_sp_iy => [0xFD, 0xF9]
  | .rlc_miyd_b d => [0xFD, 0xCB, d, 0x00]
  | .rlc_miyd_c d => [0xFD, 0xCB, d, 0x01]
  | .rlc_miyd_d d => [0xFD, 0xCB, d, 0x02]
  | .rlc_miyd_e d => [0xFD, 0xCB, d, 0x03]
  | .rlc_miyd_h d => [0xFD, 0xCB, d, 0x04]
  | .rlc_miyd_l d => [0xFD, 0xCB, d, 0x05]
  | .rlc_miyd d => [0xFD, 0xCB, d, 0x06]
  | .rlc_miyd_a d => [0xFD, 0xCB, d, 0x07]
  | .rrc_miyd_b d => [0xFD, 0xCB, d, 0x08]
  | .rrc_miyd_c d => [0xFD, 0xCB, d, 0x09]
  | .rrc_miyd_d d => [0xFD, 0xCB, d, 0x0A]
  | .rrc_miyd_e d => [0xFD, 0xCB, d, 0x0B]
  | .rrc_miyd_h d => [0xFD, 0xCB, d, 0x0C]
  | .rrc_miyd_l d => [0xFD, 0xCB, d, 0x0D]
  | .rrc_miyd d => [0xFD, 0xCB, d, 0x0E]
  | .rrc_miyd_a d => [0xFD, 0xCB, d, 0x0F]
  | .rl_miyd_b d => [0xFD, 0xCB, d, 0x10]
  | .rl_miyd_c d => [0xFD, 0xCB, d, 0x11]
  | .rl_miyd_d d => [0xFD, 0xCB, d, 0x12]
  | .rl_miyd_e d => [0xFD, 0xCB, d, 0x13]
  | .rl_miyd_h d => [0xFD, 0xCB, d, 0x14]
  | .rl_miyd_l d => [0xFD, 0xCB, d, 0x15]
  | .rl_miyd d => [0xFD, 0xCB, d, 0x16]
  | .rl_miyd_a d => [0xFD, 0xCB, d, 0x17]
  | .rr_miyd_b d => [0xFD, 0xCB, d, 0x18]
  | .rr_miyd_c d => [0xFD, 0xCB, d, 0x19]
  | .rr_miyd_d d => [0xFD, 0xCB, d, 0x1A]
  | .rr_miyd_e d => [0xFD, 0xCB, d, 0x1B]
  | .rr_miyd_h d => [0xFD, 0xCB, d, 0x1C]
  | .rr_miyd_l d => [0xFD, 0xCB, d, 0x1D]
  | .rr_miyd d => [0xFD, 0xCB, d, 0x1E]
  | .rr_miyd_a d => [0xFD, 0xCB, d, 0x1F]
  | .sla_miyd_b d => [0xFD, 0xCB, d, 0x20]
  | .sla_miyd_c d => [0xFD, 0xCB, d, 0x21]
  | .sla_miyd_d d => [0xFD, 0xCB, d, 0x22]
  | .sla_miyd_e d => [0xFD, 0xCB, d, 0x23]
  | .sla_miyd_h d => [0xFD, 0xCB, d, 0x24]
  | .sla_miyd_l d => [0xFD, 0xCB, d, 0x25]
  | .sla_miyd d => [0xFD, 0xCB, d, 0x26]
  | .sla_miyd_a d => [0xFD, 0xCB, d, 0x27]
  | .sra_miyd_b d => [0xFD, 0xCB, d, 0x28]
  | .sra_miyd_c d => [0xFD, 0xCB, d, 0x29]
  | .sra_miyd_d d => [0xFD, 0xCB, d, 0x2A]
  | .sra_miyd_e d => [0xFD, 0xCB, d, 0x2B]
  | .sra_miyd_h d => [0xFD, 0xCB, d, 0x2C]
  | .sra_miyd_l d => [0xFD, 0xCB, d, 0x2D]
  | .sra_miyd d => [0xFD, 0xCB, d, 0x2E]
  | .sra_miyd_a d => [0xFD, 0xCB, d, 0x2F]
  | .sll_miyd_b d => [0xFD, 0xCB, d, 0x30]
  | .sll_miyd_c d => [0xFD, 0xCB, d, 0x31]
  | .sll_miyd_d d => [0xFD, 0xCB, d, 0x32]
  | .sll_miyd_e d => [0xFD, 0xCB, d, 0x33]
  | .sll_miyd_h d => [0xFD, 0xCB, d, 0x34]
  | .sll_miyd_l d => [0xFD, 0xCB, d, 0x35]
  | .sll_miyd d => [0xFD, 0xCB, d, 0x36]
  | .sll_miyd_a d => [0xFD, 0xCB, d, 0x37]
  | .srl_miyd_b d => [0xFD, 0xCB, d, 0x38]
  | .srl_miyd_c d => [0xFD, 0xCB, d, 0x39]
  | .srl_miyd_d d => [0xFD, 0xCB, d, 0x3A]
  | .srl_miyd_e d => [0xFD, 0xCB, d, 0x3B]
  | .srl_miyd_h d => [0xFD, 0xCB, d, 0x3C]
  | .srl_miyd_l d => [0xFD, 0xCB, d, 0x3D]
  | .srl_miyd d => [0xFD, 0xCB, d, 0x3E]
  | .srl_miyd_a d => [0xFD, 0xCB, d, 0x3F]
  | .bit_0_miyd d z => [0xFD, 0xCB, d, 0x40 ||| z.zeroExtend 8]
  | .bit_1_miyd d z => [0xFD, 0xCB, d, 0x48 ||| z.zeroExtend 8]
  | .bit_2_miyd d z => [0xFD, 0xCB, d, 0x50 ||| z.zeroExtend 8]
  | .bit_3_miyd d z => [0xFD, 0xCB, d, 0x58 ||| z.zeroExtend 8]
  | .bit_4_miyd d z => [0xFD, 0xCB, d, 0x60 ||| z.zeroExtend 8]
  | .bit_5_miyd d z => [0xFD, 0xCB, d, 0x68 ||| z.zeroExtend 8]
  | .bit_6_miyd d z => [0xFD, 0xCB, d, 0x70 ||| z.zeroExtend 8]
  | .bit_7_miyd d z => [0xFD, 0xCB, d, 0x78 ||| z.zeroExtend 8]
  | .res_0_miyd_b d => [0xFD, 0xCB, d, 0x80]
  | .res_0_miyd_c d => [0xFD, 0xCB, d, 0x81]
  | .res_0_miyd_d d => [0xFD, 0xCB, d, 0x82]
  | .res_0_miyd_e d => [0xFD, 0xCB, d, 0x83]
  | .res_0_miyd_h d => [0xFD, 0xCB, d, 0x84]
  | .res_0_miyd_l d => [0xFD, 0xCB, d, 0x85]
  | .res_0_miyd d => [0xFD, 0xCB, d, 0x86]
  | .res_0_miyd_a d => [0xFD, 0xCB, d, 0x87]
  | .res_1_miyd_b d => [0xFD, 0xCB, d, 0x88]
  | .res_1_miyd_c d => [0xFD, 0xCB, d, 0x89]
  | .res_1_miyd_d d => [0xFD, 0xCB, d, 0x8A]
  | .res_1_miyd_e d => [0xFD, 0xCB, d, 0x8B]
  | .res_1_miyd_h d => [0xFD, 0xCB, d, 0x8C]
  | .res_1_miyd_l d => [0xFD, 0xCB, d, 0x8D]
  | .res_1_miyd d => [0xFD, 0xCB, d, 0x8E]
  | .res_1_miyd_a d => [0xFD, 0xCB, d, 0x8F]
  | .res_2_miyd_b d => [0xFD, 0xCB, d, 0x90]
  | .res_2_miyd_c d => [0xFD, 0xCB, d, 0x91]
  | .res_2_miyd_d d => [0xFD, 0xCB, d, 0x92]
  | .res_2_miyd_e d => [0xFD, 0xCB, d, 0x93]
  | .res_2_miyd_h d => [0xFD, 0xCB, d, 0x94]
  | .res_2_miyd_l d => [0xFD, 0xCB, d, 0x95]
  | .res_2_miyd d => [0xFD, 0xCB, d, 0x96]
  | .res_2_miyd_a d => [0xFD, 0xCB, d, 0x97]
  | .res_3_miyd_b d => [0xFD, 0xCB, d, 0x98]
  | .res_3_miyd_c d => [0xFD, 0xCB, d, 0x99]
  | .res_3_miyd_d d => [0xFD, 0xCB, d, 0x9A]
  | .res_3_miyd_e d => [0xFD, 0xCB, d, 0x9B]
  | .res_3_miyd_h d => [0xFD, 0xCB, d, 0x9C]
  | .res_3_miyd_l d => [0xFD, 0xCB, d, 0x9D]
  | .res_3_miyd d => [0xFD, 0xCB, d, 0x9E]
  | .res_3_miyd_a d => [0xFD, 0xCB, d, 0x9F]
  | .res_4_miyd_b d => [0xFD, 0xCB, d, 0xA0]
  | .res_4_miyd_c d => [0xFD, 0xCB, d, 0xA1]
  | .res_4_miyd_d d => [0xFD, 0xCB, d, 0xA2]
  | .res_4_miyd_e d => [0xFD, 0xCB, d, 0xA3]
  | .res_4_miyd_h d => [0xFD, 0xCB, d, 0xA4]
  | .res_4_miyd_l d => [0xFD, 0xCB, d, 0xA5]
  | .res_4_miyd d => [0xFD, 0xCB, d, 0xA6]
  | .res_4_miyd_a d => [0xFD, 0xCB, d, 0xA7]
  | .res_5_miyd_b d => [0xFD, 0xCB, d, 0xA8]
  | .res_5_miyd_c d => [0xFD, 0xCB, d, 0xA9]
  | .res_5_miyd_d d => [0xFD, 0xCB, d, 0xAA]
  | .res_5_miyd_e d => [0xFD, 0xCB, d, 0xAB]
  | .res_5_miyd_h d => [0xFD, 0xCB, d, 0xAC]
  | .res_5_miyd_l d => [0xFD, 0xCB, d, 0xAD]
  | .res_5_miyd d => [0xFD, 0xCB, d, 0xAE]
  | .res_5_miyd_a d => [0xFD, 0xCB, d, 0xAF]
  | .res_6_miyd_b d => [0xFD, 0xCB, d, 0xB0]
  | .res_6_miyd_c d => [0xFD, 0xCB, d, 0xB1]
  | .res_6_miyd_d d => [0xFD, 0xCB, d, 0xB2]
  | .res_6_miyd_e d => [0xFD, 0xCB, d, 0xB3]
  | .res_6_miyd_h d => [0xFD, 0xCB, d, 0xB4]
  | .res_6_miyd_l d => [0xFD, 0xCB, d, 0xB5]
  | .res_6_miyd d => [0xFD, 0xCB, d, 0xB6]
  | .res_6_miyd_a d => [0xFD, 0xCB, d, 0xB7]
  | .res_7_miyd_b d => [0xFD, 0xCB, d, 0xB8]
  | .res_7_miyd_c d => [0xFD, 0xCB, d, 0xB9]
  | .res_7_miyd_d d => [0xFD, 0xCB, d, 0xBA]
  | .res_7_miyd_e d => [0xFD, 0xCB, d, 0xBB]
  | .res_7_miyd_h d => [0xFD, 0xCB, d, 0xBC]
  | .res_7_miyd_l d => [0xFD, 0xCB, d, 0xBD]
  | .res_7_miyd d => [0xFD, 0xCB, d, 0xBE]
  | .res_7_miyd_a d => [0xFD, 0xCB, d, 0xBF]
  | .set_0_miyd_b d => [0xFD, 0xCB, d, 0xC0]
  | .set_0_miyd_c d => [0xFD, 0xCB, d, 0xC1]
  | .set_0_miyd_d d => [0xFD, 0xCB, d, 0xC2]
  | .set_0_miyd_e d => [0xFD, 0xCB, d, 0xC3]
  | .set_0_miyd_h d => [0xFD, 0xCB, d, 0xC4]
  | .set_0_miyd_l d => [0xFD, 0xCB, d, 0xC5]
  | .set_0_miyd d => [0xFD, 0xCB, d, 0xC6]
  | .set_0_miyd_a d => [0xFD, 0xCB, d, 0xC7]
  | .set_1_miyd_b d => [0xFD, 0xCB, d, 0xC8]
  | .set_1_miyd_c d => [0xFD, 0xCB, d, 0xC9]
  | .set_1_miyd_d d => [0xFD, 0xCB, d, 0xCA]
  | .set_1_miyd_e d => [0xFD, 0xCB, d, 0xCB]
  | .set_1_miyd_h d => [0xFD, 0xCB, d, 0xCC]
  | .set_1_miyd_l d => [0xFD, 0xCB, d, 0xCD]
  | .set_1_miyd d => [0xFD, 0xCB, d, 0xCE]
  | .set_1_miyd_a d => [0xFD, 0xCB, d, 0xCF]
  | .set_2_miyd_b d => [0xFD, 0xCB, d, 0xD0]
  | .set_2_miyd_c d => [0xFD, 0xCB, d, 0xD1]
  | .set_2_miyd_d d => [0xFD, 0xCB, d, 0xD2]
  | .set_2_miyd_e d => [0xFD, 0xCB, d, 0xD3]
  | .set_2_miyd_h d => [0xFD, 0xCB, d, 0xD4]
  | .set_2_miyd_l d => [0xFD, 0xCB, d, 0xD5]
  | .set_2_miyd d => [0xFD, 0xCB, d, 0xD6]
  | .set_2_miyd_a d => [0xFD, 0xCB, d, 0xD7]
  | .set_3_miyd_b d => [0xFD, 0xCB, d, 0xD8]
  | .set_3_miyd_c d => [0xFD, 0xCB, d, 0xD9]
  | .set_3_miyd_d d => [0xFD, 0xCB, d, 0xDA]
  | .set_3_miyd_e d => [0xFD, 0xCB, d, 0xDB]
  | .set_3_miyd_h d => [0xFD, 0xCB, d, 0xDC]
  | .set_3_miyd_l d => [0xFD, 0xCB, d, 0xDD]
  | .set_3_miyd d => [0xFD, 0xCB, d, 0xDE]
  | .set_3_miyd_a d => [0xFD, 0xCB, d, 0xDF]
  | .set_4_miyd_b d => [0xFD, 0xCB, d, 0xE0]
  | .set_4_miyd_c d => [0xFD, 0xCB, d, 0xE1]
  | .set_4_miyd_d d => [0xFD, 0xCB, d, 0xE2]
  | .set_4_miyd_e d => [0xFD, 0xCB, d, 0xE3]
  | .set_4_miyd_h d => [0xFD, 0xCB, d, 0xE4]
  | .set_4_miyd_l d => [0xFD, 0xCB, d, 0xE5]
  | .set_4_miyd d => [0xFD, 0xCB, d, 0xE6]
  | .set_4_miyd_a d => [0xFD, 0xCB, d, 0xE7]
  | .set_5_miyd_b d => [0xFD, 0xCB, d, 0xE8]
  | .set_5_miyd_c d => [0xFD, 0xCB, d, 0xE9]
  | .set_5_miyd_d d => [0xFD, 0xCB, d, 0xEA]
  | .set_5_miyd_e d => [0xFD, 0xCB, d, 0xEB]
  | .set_5_miyd_h d => [0xFD, 0xCB, d, 0xEC]
  | .set_5_miyd_l d => [0xFD, 0xCB, d, 0xED]
  | .set_5_miyd d => [0xFD, 0xCB, d, 0xEE]
  | .set_5_miyd_a d => [0xFD, 0xCB, d, 0xEF]
  | .set_6_miyd_b d => [0xFD, 0xCB, d, 0xF0]
  | .set_6_miyd_c d => [0xFD, 0xCB, d, 0xF1]
  | .set_6_miyd_d d => [0xFD, 0xCB, d, 0xF2]
  | .set_6_miyd_e d => [0xFD, 0xCB, d, 0xF3]
  | .set_6_miyd_h d => [0xFD, 0xCB, d, 0xF4]
  | .set_6_miyd_l d => [0xFD, 0xCB, d, 0xF5]
  | .set_6_miyd d => [0xFD, 0xCB, d, 0xF6]
  | .set_6_miyd_a d => [0xFD, 0xCB, d, 0xF7]
  | .set_7_miyd_b d => [0xFD, 0xCB, d, 0xF8]
  | .set_7_miyd_c d => [0xFD, 0xCB, d, 0xF9]
  | .set_7_miyd_d d => [0xFD, 0xCB, d, 0xFA]
  | .set_7_miyd_e d => [0xFD, 0xCB, d, 0xFB]
  | .set_7_miyd_h d => [0xFD, 0xCB, d, 0xFC]
  | .set_7_miyd_l d => [0xFD, 0xCB, d, 0xFD]
  | .set_7_miyd d => [0xFD, 0xCB, d, 0xFE]
  | .set_7_miyd_a d => [0xFD, 0xCB, d, 0xFF]

/-- Whether a first byte opens a longer opcode (R80, R88). -/
def opensFormat (b0 : Byte) : Bool := b0 == 0xCB || b0 == 0xED || b0 == 0xDD || b0 == 0xFD

/-- The number of bytes of an instruction (R80, R94). -/
def Instr.length (i : Instr) : Nat := (encode i).length

/-- The opcode fetches that R102 counts: 1 for the main format, 2 for every other one. -/
def Instr.opcodeFetches (i : Instr) : Nat :=
  match encode i with
  | [] => 1
  | b0 :: _ => if opensFormat b0 then 2 else 1

/-! ## The table's words -/

/-- The `n` bytes of `w`, the first byte the most significant: the numbering of opcode_table.json, whose `fixed` gives the
first byte of a row the highest bits (notes/assumptions/8.md). -/
def bytesFirstHigh (n w : Nat) : List Byte :=
  (List.range n).map (fun k => BitVec.ofNat 8 (w >>> (8 * (n - 1 - k))))

/-- The `n` bytes of `w`, the first byte the least significant. -/
def bytesFirstLow (n w : Nat) : List Byte :=
  (List.range n).map (fun k => BitVec.ofNat 8 (w >>> (8 * k)))

/-- Bytes followed by zeros up to the longest instruction (R80). -/
def padInstr (bytes : List Byte) : List Byte := bytes ++ List.replicate (4 - bytes.length) 0

noncomputable section

/-- Whether the bytes, zeros after them, are one instruction of exactly their length. -/
def isWhole (bytes : List Byte) : Bool :=
  match decode (padInstr bytes) with
  | .ok (_, rest) => 4 - rest.length == bytes.length
  | .error _ => false

/-- The bytes of a table word of `nbits` bits in fetch order, zeros after them: read as the table numbers its bits, or, where
that is no instruction of that length and the opposite numbering is, in the opposite numbering. -/
def tableBytes (nbits w : Nat) : List Byte :=
  let n := (nbits + 7) / 8
  let high := bytesFirstHigh n w
  let low := bytesFirstLow n w
  padInstr (if !isWhole high && isWhole low then low else high)

/-- The instruction the decoder reads from a table word. -/
def decodeTableWord (nbits w : Nat) : Option Instr :=
  match decode (tableBytes nbits w) with
  | .ok (i, _) => some i
  | .error _ => none

end

end Sys2Proof
end

