-- ==== Sys2Proof/Config.lean ====
section
/-! DEFINITION. The implementation parameters the spec leaves to the launch (00_scope.md R8) and the free values
that stand for what the spec calls unspecified (10_state.md R37 has launch values instead; 30_encoding.md R101
`draw()`; 60_exceptions.md R374). A parameter is plain data and every statement holds for each of its values; a free
value is a constant with no body, so that no proof can know it. -/

namespace Sys2Proof

/-- `ADDR_WRAP` (R8, R56): how an indexed sum and the address of a word's second byte leave 0..65535. -/
inductive AddrWrap where
  | wrap
  | fault
deriving DecidableEq, Repr

/-- `R_MODE` (R8, R102): whether opcode fetches advance `R`. -/
inductive RMode where
  | frozen
  | m1
deriving DecidableEq, Repr

/-- `UNDOC_FLAGS` (R8, R101): whether the flags the source does not give follow the silicon formulas or are drawn. -/
inductive UndocFlags where
  | silicon
  | draw
deriving DecidableEq, Repr

/-- The parameters of one engine, fixed once it is constructed (R8). `STOP` is an argument of each run
(Machine/Run.lean) and the launch values are the argument of a reset (Machine/Launch.lean). -/
structure Params where
  /-- `MEM_SIZE`, 1 to 65536 (R8, R50). -/
  memSize : Nat
  addrWrap : AddrWrap
  rMode : RMode
  undocFlags : UndocFlags
deriving DecidableEq, Repr

/-- The range R8 gives `MEM_SIZE`. -/
def Params.wf (p : Params) : Bool := decide (1 ≤ p.memSize) && decide (p.memSize ≤ 65536)

/-- A fresh unconstrained bit, `draw()` of R12 and R101 (used only when `UNDOC_FLAGS = DRAW`), and a flip-flop after a
fault (R374). The argument is the state's draw counter. -/
opaque Config.freeBit : Nat → Bool

/-- An unconstrained byte: an 8-bit register after a fault (R374, U2). -/
opaque Config.freeByte : Nat → Byte

/-- An unconstrained word: `PC`, `SP` after a fault (R374, U2). -/
opaque Config.freeWord : Nat → Word

/-- Unconstrained cell contents: main memory and the port space after a fault (R374, U2). -/
opaque Config.freeCells : Nat → List Host.Cell

end Sys2Proof
end

