-- ==== Sys2Proof/Machine/Memory.lean ====
section
/-! DEFINITION. The two cell arrays of the engine, main memory and the port space (spec 20_memory.md R50 to R52), as
sorted lists of the cells that differ from what an unlisted cell reads as. -/

namespace Sys2Proof.Machine

/-- The cells of one space by address, in one canonical form (`Memory.wf`). -/
abbrev Memory := List Host.Cell

/-- What a cell that is not listed reads as. DESIGN CHOICE (notes/assumptions/2.md): the spec leaves the launch
contents of memory and ports open (R37, U1); zero is the launch value of the spec's own vectors (95_test_vectors.md
section 0). Unsafe. -/
def unlistedByte : Byte := 0

/-- `MEM[a]` or `PORT[a]` (R51, R52). -/
def Memory.read : Memory → Nat → Byte
  | [], _ => unlistedByte
  | (k, v) :: m, a => if a = k then v else Memory.read m a

/-- Adds a cell before the first listed cell of a higher address. -/
def Memory.insert : Memory → Nat → Byte → Memory
  | [], a, v => [(a, v)]
  | (k, x) :: m, a, v => if a < k then (a, v) :: (k, x) :: m else (k, x) :: Memory.insert m a v

/-- `MEM[a] <- v` or `PORT[a] <- v` (R51, R52); writing what an unlisted cell reads as unlists the cell. -/
def Memory.write (m : Memory) (a : Nat) (v : Byte) : Memory :=
  if v = unlistedByte then m.filter (fun cell => cell.1 != a)
  else Memory.insert (m.filter (fun cell => cell.1 != a)) a v

/-- Strictly rising addresses in `lo .. size - 1`, none listed with the unlisted value. -/
def Memory.wfFrom (size : Nat) : Nat → Memory → Bool
  | _, [] => true
  | lo, (k, v) :: m => decide (lo ≤ k) && decide (k < size) && (v != unlistedByte) && Memory.wfFrom size (k + 1) m

/-- The canonical form of a space of `size` cells: equal contents are equal lists. -/
def Memory.wf (size : Nat) (m : Memory) : Bool := Memory.wfFrom size 0 m

/-- The canonical memory of `size` cells that a list of cells describes (a later cell of the same address wins; a cell
outside the space is dropped). -/
def Memory.ofCells (size : Nat) (cells : List Host.Cell) : Memory :=
  cells.foldl (fun m cell => if cell.1 < size then m.write cell.1 cell.2 else m) []

end Sys2Proof.Machine
end

