-- ==== Sys2Proof/Machine/Launch.lean ====
section
/-! DEFINITION. The launch of an engine: the parameters' values and the values of every state element that
10_state.md R37 marks unspecified (00_scope.md R8; 70_reset_and_hazards.md R400). -/

namespace Sys2Proof.Machine

/-- The parameter values of 00_scope.md R8's table. `R_MODE` is OPEN there; `FROZEN` is the value of the spec's vectors
(95_test_vectors.md section 0). DESIGN CHOICE (notes/assumptions/3.md), unsafe. -/
def standardParams : Params :=
  { memSize := 65536, addrWrap := .wrap, rMode := .frozen, undocFlags := .silicon }

/-- "A state element marked unspecified takes the value the launch supplies" (R37): one field for each such element; and the
number the draws go on from, the model's own, so that a reset repeats none (notes/assumptions/4.md). -/
structure Launch where
  a : Byte
  f : Byte
  b : Byte
  c : Byte
  d : Byte
  e : Byte
  h : Byte
  l : Byte
  a' : Byte
  f' : Byte
  b' : Byte
  c' : Byte
  d' : Byte
  e' : Byte
  h' : Byte
  l' : Byte
  ixh : Byte
  ixl : Byte
  iyh : Byte
  iyl : Byte
  sp : Word
  mem : Memory
  ports : Memory
  draws : Nat
deriving DecidableEq, Repr

/-- The draw counter's launch value in `State.reset`: the model's own. DESIGN CHOICE (notes/assumptions/4.md); no statement
rests on it. -/
def launchDraws : Nat := 0

/-- The launch values of `State.reset`. DESIGN CHOICE (notes/assumptions/1.md and 2.md): the spec gives none (U1) and its
own vectors launch with 0. Unsafe. -/
def standardLaunch : Launch :=
  { a := 0, f := 0, b := 0, c := 0, d := 0, e := 0, h := 0, l := 0,
    a' := 0, f' := 0, b' := 0, c' := 0, d' := 0, e' := 0, h' := 0, l' := 0,
    ixh := 0, ixl := 0, iyh := 0, iyl := 0, sp := 0, mem := [], ports := [], draws := launchDraws }

end Sys2Proof.Machine
end

