-- ==== Sys2Proof/Machine/State.lean ====
section
/-! DEFINITION. Everything the spec gives the machine (10_state.md R20 to R37) as plain data, the reasons a step can
stop, and reset (70_reset_and_hazards.md R400). -/

namespace Sys2Proof.Machine

/-- The address space a fault names (60_exceptions.md R371: `info = (MEM, a, pc0)`). A port access cannot fault, so `port`
is never raised. -/
inductive Space where
  | mem
  | port
deriving DecidableEq, Repr

/-- `FAULT(kind, info)` (60_exceptions.md R371, R372). `addr` is an exact integer because under `ADDR_WRAP = FAULT` the
faulting sum may lie outside 0..65535 (R56). -/
inductive FaultInfo where
  /-- Cause code 1: an access at an address that does not exist; `pc0` is the address of the instruction's first byte. -/
  | outOfRange (space : Space) (addr : Int) (pc0 : Word)
  /-- Cause code 2: the two bytes fetched are no encoding's. -/
  | illegalOpcode (b0 b1 : Byte) (pc0 : Word)
deriving DecidableEq, Repr

/-- The engine's run status (R33). -/
inductive Status where
  | run
  | halted
  /-- End of memory. -/
  | eom
  | fault (info : FaultInfo)
deriving DecidableEq, Repr

/-- The whole state of one engine (R20 to R34: "there is no other state", R36), with two fields of the model's own:
`draws`, which numbers the free values taken so far, and `params`, the parameters the engine was constructed with. -/
structure State where
  /-- `A`, the accumulator (R20). -/
  a : Byte
  /-- `F`, the flag register (R28). -/
  f : Byte
  b : Byte
  c : Byte
  d : Byte
  e : Byte
  h : Byte
  l : Byte
  /-- The alternate registers (R21). -/
  a' : Byte
  f' : Byte
  b' : Byte
  c' : Byte
  d' : Byte
  e' : Byte
  h' : Byte
  l' : Byte
  /-- The halves of `IX` and `IY` (R22). -/
  ixh : Byte
  ixl : Byte
  iyh : Byte
  iyl : Byte
  /-- `SP` (R27). -/
  sp : Word
  /-- `PC` (R26). -/
  pc : Word
  /-- `I` (R32). -/
  i : Byte
  /-- `R` (R32). -/
  r : Byte
  /-- The interrupt-enable flip-flops (R30). -/
  iff1 : Bool
  iff2 : Bool
  /-- `IM`, a 2-bit register holding 0, 1 or 2 (R31). -/
  im : BitVec 2
  /-- The run status (R33). -/
  status : Status
  /-- Main memory (R34, R50). -/
  mem : Memory
  /-- The port space (R34, R52). -/
  ports : Memory
  /-- The model's own: the number of free values taken so far (30_encoding.md R101 `draw()`; R374). -/
  draws : Nat
  /-- The parameters of R8, fixed at construction. -/
  params : Params
deriving DecidableEq, Repr

/-- Why a step stops without a next state. -/
inductive Fault where
  /-- Raised by `step` alone, when `status` is not `RUN`: "When `status != RUN` the engine has no step" (30_encoding.md
  R95); only reset or the host leaves such a state (R33). Safe: nothing runs. -/
  | notRunning (status : Status)
deriving DecidableEq, Repr

/-- Why the model gives no meaning. -/
inductive Refusal where
  /-- An arm of `exec` whose instruction has no meaning yet (none in this model). Safe. -/
  | notModelled (mnemonic : String)
  /-- Raised by `executeOne` alone, called by the host when `status` is not `RUN`: "refuse: the host must not do it, and the
  spec gives no result" (93_implementation_defined.md U13). Safe. -/
  | executeOneNotRunning (status : Status)
deriving DecidableEq, Repr

/-- Reset with parameters and launch values (R37, R400): the elements R37 gives a value take it, every other one its launch
value. -/
def State.ofLaunch (p : Params) (x : Launch) : State :=
  { a := x.a, f := x.f, b := x.b, c := x.c, d := x.d, e := x.e, h := x.h, l := x.l,
    a' := x.a', f' := x.f', b' := x.b', c' := x.c', d' := x.d', e' := x.e', h' := x.h', l' := x.l',
    ixh := x.ixh, ixl := x.ixl, iyh := x.iyh, iyl := x.iyl, sp := x.sp,
    pc := 0, i := 0, r := 0, iff1 := false, iff2 := false, im := 0, status := .run,
    mem := x.mem, ports := x.ports, draws := x.draws, params := p }

/-- The machine right after reset (R400), with the standard parameters and launch values. -/
def State.reset : State := State.ofLaunch standardParams standardLaunch

end Sys2Proof.Machine
end

