-- ==== Sys2Proof/Machine/Ops.lean ====
section
/-! DEFINITION. The named operations over memory, ports, the stack, the program counter and the refresh register, and
taking a fault (spec 20_memory.md, 30_encoding.md sections 3 and 5, 43_stack.md R200, 60_exceptions.md). -/

namespace Sys2Proof.Machine

/-- An access that raised `OutOfRange(space, addr)` (R12, R371); the instruction's `pc0` is added by `State.finish`. -/
structure AccessFault where
  space : Space
  addr : Int
deriving DecidableEq, Repr

/-! ## Main memory and ports -/

/-- Whether `a < MEM_SIZE` (R50, R51). -/
abbrev State.inMem (s : State) (a : Word) : Prop := a.toNat < s.params.memSize

/-- `MemRead(a, 1)` (R51). -/
def State.memRead (s : State) (a : Word) : Except AccessFault Byte :=
  if s.inMem a then .ok (s.mem.read a.toNat) else .error ⟨.mem, a.toNat⟩

/-- `MEM[a] <- v` for a cell that exists. -/
def State.storeByte (s : State) (a : Word) (v : Byte) : State :=
  { s with mem := s.mem.write a.toNat v }

/-- `MemWrite(a, 1, v)` (R51). -/
def State.memWrite (s : State) (a : Word) (v : Byte) : Except AccessFault State :=
  if s.inMem a then .ok (s.storeByte a v) else .error ⟨.mem, a.toNat⟩

/-- An address computed as an exact integer, taken modulo 65536 or refused as `ADDR_WRAP` says (R56). -/
def State.resolve (s : State) (x : Int) : Except AccessFault Word :=
  match s.params.addrWrap with
  | .wrap => .ok (BitVec.ofInt 16 x)
  | .fault => if 0 ≤ x ∧ x ≤ 65535 then .ok (BitVec.ofInt 16 x) else .error ⟨.mem, x⟩

/-- `AddrNext(a)`, the address of the byte after `a` (R56). -/
def State.addrNext (s : State) (a : Word) : Except AccessFault Word := s.resolve (a.toNat + 1)

/-- `MemRead(a, 2)`, low byte then high byte (R54, R55). -/
def State.memRead16 (s : State) (a : Word) : Except AccessFault Word := do
  let low ← s.memRead a
  let next ← s.addrNext a
  let high ← s.memRead next
  return joinBytes high low

/-- `MemWrite(a, 2, v)`, low byte then high byte (R54, R55). -/
def State.memWrite16 (s : State) (a : Word) (v : Word) : Except AccessFault State := do
  let s1 ← s.memWrite a (lowByte v)
  let next ← s1.addrNext a
  s1.memWrite next (highByte v)

/-- `PortRead(p)` (R52, R53); no port access faults. -/
def State.portRead (s : State) (p : Byte) : Byte := s.ports.read p.toNat

/-- `PortWrite(p, v)` (R52, R53). -/
def State.portWrite (s : State) (p v : Byte) : State :=
  { s with ports := s.ports.write p.toNat v }

/-! ## Stack -/

/-- `Push16(v)`: high byte then low byte, `SP` decremented before each (R200). -/
def State.push16 (s : State) (v : Word) : Except AccessFault State := do
  let s1 := { s with sp := s.sp - 1 }
  let s2 ← s1.memWrite s1.sp (highByte v)
  let s3 := { s2 with sp := s2.sp - 1 }
  s3.memWrite s3.sp (lowByte v)

/-- `Pop16()`: low byte then high byte, `SP` incremented after each (R200). Answers the word and the state. -/
def State.pop16 (s : State) : Except AccessFault (Word × State) := do
  let low ← s.memRead s.sp
  let s1 := { s with sp := s.sp + 1 }
  let high ← s1.memRead s1.sp
  return (joinBytes high low, { s1 with sp := s1.sp + 1 })

/-! ## Free values -/

/-- How many numbers one fault takes from the draw counter. -/
def faultDraws : Nat := 32

/-- Fault entry (R374), the ONE operation that takes a fault: `status <- FAULT(kind, info)`, and "the values of every
register, memory cell and port cell are unspecified", so each is a free value (notes/assumptions/5.md). The parameters are
fixed at construction, and `IM` keeps the range R31 gives it. -/
def State.enterFault (s : State) (info : FaultInfo) : State :=
  let k := s.draws
  { a := Config.freeByte k, f := Config.freeByte (k + 1), b := Config.freeByte (k + 2), c := Config.freeByte (k + 3),
    d := Config.freeByte (k + 4), e := Config.freeByte (k + 5), h := Config.freeByte (k + 6), l := Config.freeByte (k + 7),
    a' := Config.freeByte (k + 8), f' := Config.freeByte (k + 9), b' := Config.freeByte (k + 10),
    c' := Config.freeByte (k + 11), d' := Config.freeByte (k + 12), e' := Config.freeByte (k + 13),
    h' := Config.freeByte (k + 14), l' := Config.freeByte (k + 15),
    ixh := Config.freeByte (k + 16), ixl := Config.freeByte (k + 17), iyh := Config.freeByte (k + 18),
    iyl := Config.freeByte (k + 19), sp := Config.freeWord k, pc := Config.freeWord (k + 1),
    i := Config.freeByte (k + 20), r := Config.freeByte (k + 21),
    iff1 := Config.freeBit k, iff2 := Config.freeBit (k + 1),
    im := BitVec.ofNat 2 ((Config.freeWord (k + 2)).toNat % 3),
    status := .fault info,
    mem := Memory.ofCells s.params.memSize (Config.freeCells k),
    ports := Memory.ofCells 256 (Config.freeCells (k + 1)),
    draws := k + faultDraws, params := s.params }

/-- Ends an execute phase that started in `s`: its next state, or fault entry for the first access that raised
`OutOfRange` (R371, R375). In `s` the program counter is the address after the instruction of `len` bytes (R26), so
`pc0` is `PC - len`. -/
def State.finish (s : State) (len : Nat) : Except AccessFault State → Host.Outcome State Fault Refusal
  | .ok t => .next t
  | .error e => .next (s.enterFault (.outOfRange e.space e.addr (s.pc - BitVec.ofNat 16 len)))

/-- A bit of a flag the source does not give (R101): the silicon formula's value under `UNDOC_FLAGS = SILICON`, the `k`-th
fresh draw of this step under `DRAW`. -/
def State.undocBit (s : State) (k : Nat) (silicon : Bool) : Bool :=
  match s.params.undocFlags with
  | .silicon => silicon
  | .draw => Config.freeBit (s.draws + k)

/-- Counts `n` draws as taken; under `SILICON` none is. -/
def State.tookDraws (s : State) (n : Nat) : State :=
  match s.params.undocFlags with
  | .silicon => s
  | .draw => { s with draws := s.draws + n }

/-! ## Program counter, refresh register, fetch -/

/-- `PC` after `n` bytes have been fetched (R26, R96). -/
def State.advance (s : State) (n : Nat) : State := { s with pc := s.pc + BitVec.ofNat 16 n }

/-- Adds `n` to `R[6:0]` modulo 128 and keeps `R[7]`, under `R_MODE = M1`; nothing under `FROZEN` (R102). -/
def State.updateR (s : State) (n : Nat) : State :=
  match s.params.rMode with
  | .frozen => s
  | .m1 => { s with r := (s.r &&& 0x80#8) ||| ((s.r + BitVec.ofNat 8 n) &&& 0x7F#8) }

/-- The bytes that fetches from `a` on can read, at most `n`, up to the first address not below `MEM_SIZE` (R96). -/
def State.bytesFrom (s : State) : Nat → Word → List Byte
  | 0, _ => []
  | n + 1, a => if s.inMem a then s.mem.read a.toNat :: s.bytesFrom n (a + 1) else []

/-- The longest instruction (R80). -/
def longestInstr : Nat := 4

/-- What fetching at `PC` reads: an instruction and its length in bytes, or the fault the fetch raises (R93, R95, R96, R375).
A byte that is missing is the first one at an address not below `MEM_SIZE`. -/
noncomputable def State.fetch (s : State) : Except FaultInfo (Instr × Nat) :=
  let bytes := s.bytesFrom longestInstr s.pc
  match decode bytes with
  | .ok (i, rest) => .ok (i, bytes.length - rest.length)
  | .error (.illegal b0 b1) => .error (.illegalOpcode b0 b1 s.pc)
  | .error .truncated => .error (.outOfRange .mem (s.pc + BitVec.ofNat 16 bytes.length).toNat s.pc)

/-- Bytes placed in main memory from `a` on, the addresses wrapping: a program's bytes put where it is fetched, by the host
between steps (70_reset_and_hazards.md R404). -/
def State.placeBytes (s : State) : Word → List Byte → State
  | _, [] => s
  | a, v :: rest => (s.storeByte a v).placeBytes (a + 1) rest

/-- The state an instruction of `len` bytes executes in: `PC` past the whole instruction (R26) and `UpdateR` done (R95,
R102). -/
def State.fetched (s : State) (i : Instr) (len : Nat) : State := (s.advance len).updateR i.opcodeFetches

end Sys2Proof.Machine
end

