-- ==== Sys2Proof/Machine/Operands.lean ====
section
/-! DEFINITION. Registers, register pairs, conditions and operand forms (spec 10_state.md R20 to R24; 20_memory.md R58,
R59; 30_encoding.md R82 to R84; 42_arith.md R164). -/

namespace Sys2Proof.Machine

/-- The 8-bit registers an operand can name (R82). -/
inductive Reg8 where
  | a | b | c | d | e | h | l | ixh | ixl | iyh | iyl
deriving DecidableEq, Repr

/-- The 16-bit registers an operand can name (R83). -/
inductive Pair where
  | af | bc | de | hl | ix | iy | sp
deriving DecidableEq, Repr

/-- The index registers (R22). -/
inductive Idx where
  | ix | iy
deriving DecidableEq, Repr

/-- The conditions (R84). -/
inductive Cond where
  | nz | z | nc | c | po | pe | p | m
deriving DecidableEq, Repr

/-- The memory operand forms (R58, R59): register indirect, extended, indexed. -/
inductive Loc where
  | bc | de | hl
  | ext (nn : Word)
  | idx (x : Idx) (d : Byte)
deriving DecidableEq, Repr

/-- The 8-bit source operand `s` of the ALU instructions (R164). -/
inductive Src8 where
  | reg (r : Reg8)
  | imm (n : Byte)
  | mem (loc : Loc)
deriving DecidableEq, Repr

/-- The value of an 8-bit register (R20, R22). -/
def State.reg8 (s : State) : Reg8 → Byte
  | .a => s.a | .b => s.b | .c => s.c | .d => s.d | .e => s.e | .h => s.h | .l => s.l
  | .ixh => s.ixh | .ixl => s.ixl | .iyh => s.iyh | .iyl => s.iyl

/-- `r <- v` (R11, R20, R22). -/
def State.setReg8 (s : State) (r : Reg8) (v : Byte) : State :=
  match r with
  | .a => { s with a := v } | .b => { s with b := v } | .c => { s with c := v }
  | .d => { s with d := v } | .e => { s with e := v } | .h => { s with h := v } | .l => { s with l := v }
  | .ixh => { s with ixh := v } | .ixl => { s with ixl := v }
  | .iyh => { s with iyh := v } | .iyl => { s with iyl := v }

/-- Writes a register if the form names one: the copy of the `DDCB`/`FDCB` forms (30_encoding.md R92), the destination of
`in` (R311, R312). -/
def State.copyTo (s : State) (dst : Option Reg8) (v : Byte) : State :=
  match dst with
  | some r => s.setReg8 r v
  | none => s

/-- The value of a composite register, `{high, low}` (R23), or of `SP`. -/
def State.pair (s : State) : Pair → Word
  | .af => joinBytes s.a s.f | .bc => joinBytes s.b s.c | .de => joinBytes s.d s.e | .hl => joinBytes s.h s.l
  | .ix => joinBytes s.ixh s.ixl | .iy => joinBytes s.iyh s.iyl | .sp => s.sp

/-- Writing a composite writes both of its halves (R11, R23). -/
def State.setPair (s : State) (p : Pair) (v : Word) : State :=
  match p with
  | .af => { s with a := highByte v, f := lowByte v }
  | .bc => { s with b := highByte v, c := lowByte v }
  | .de => { s with d := highByte v, e := lowByte v }
  | .hl => { s with h := highByte v, l := lowByte v }
  | .ix => { s with ixh := highByte v, ixl := lowByte v }
  | .iy => { s with iyh := highByte v, iyl := lowByte v }
  | .sp => { s with sp := v }

/-- The pair an index register is. -/
def Idx.pair : Idx → Pair
  | .ix => .ix
  | .iy => .iy

/-- The effective address of a memory operand (R59), `ADDR_WRAP` applied to an indexed sum (R56). -/
def State.effAddr (s : State) : Loc → Except AccessFault Word
  | .bc => .ok (s.pair .bc)
  | .de => .ok (s.pair .de)
  | .hl => .ok (s.pair .hl)
  | .ext nn => .ok nn
  | .idx x d => s.resolve ((s.pair x.pair).toNat + d.toInt)

/-- The byte of a memory operand (R58). -/
def State.loadLoc (s : State) (loc : Loc) : Except AccessFault Byte := do
  let a ← s.effAddr loc
  s.memRead a

/-- The value of the operand `s` (R164). -/
def State.src8 (s : State) : Src8 → Except AccessFault Byte
  | .reg r => .ok (s.reg8 r)
  | .imm n => .ok n
  | .mem loc => s.loadLoc loc

/-- A relative target, measured from the address after the whole instruction (R60). -/
def State.relTarget (s : State) (e : Byte) : Word := s.pc + sext16 e

end Sys2Proof.Machine
end

