-- ==== Sys2Proof/Machine/Flags.lean ====
section
/-! DEFINITION. The flag register (spec 10_state.md R28, R29), the ALU primitives with their potential flags (42_arith.md
R160 to R163), the rotate primitive (49_rotate_shift.md R340) and the conditions (30_encoding.md R84). -/

namespace Sys2Proof.Machine

/-- The eight bits of `F` by name (R28). -/
structure Flags where
  s : Bool
  z : Bool
  f5 : Bool
  h : Bool
  f3 : Bool
  pv : Bool
  n : Bool
  c : Bool
deriving DecidableEq, Repr

/-- `F` as its named bits (R28): S 7, Z 6, bit 5, H 4, bit 3, PV 2, N 1, C 0. -/
def Flags.ofByte (v : Byte) : Flags :=
  { s := v.getLsbD 7, z := v.getLsbD 6, f5 := v.getLsbD 5, h := v.getLsbD 4,
    f3 := v.getLsbD 3, pv := v.getLsbD 2, n := v.getLsbD 1, c := v.getLsbD 0 }

/-- The named bits as `F` (R28). -/
def Flags.toByte (x : Flags) : Byte :=
  BitVec.ofBool x.s ++ BitVec.ofBool x.z ++ BitVec.ofBool x.f5 ++ BitVec.ofBool x.h
    ++ BitVec.ofBool x.f3 ++ BitVec.ofBool x.pv ++ BitVec.ofBool x.n ++ BitVec.ofBool x.c

/-- The named bits of `F`. -/
def State.flags (s : State) : Flags := Flags.ofByte s.f

/-- Writes `F` from its named bits. -/
def State.setFlags (s : State) (x : Flags) : State := { s with f := x.toByte }

/-- `F.5 <- src[5]; F.3 <- src[3]` (R101). -/
def Flags.bits53 (x : Flags) (src : Byte) : Flags := { x with f5 := src.getLsbD 5, f3 := src.getLsbD 3 }

/-- `Cond(cc)` on the flags (R84). -/
def Flags.test (x : Flags) : Cond → Bool
  | .nz => !x.z | .z => x.z | .nc => !x.c | .c => x.c
  | .po => !x.pv | .pe => x.pv | .p => !x.s | .m => x.s

/-- `Cond(cc)` on `F` as it is when the execute phase starts (R84, R224). -/
def State.cond (s : State) (cc : Cond) : Bool := s.flags.test cc

/-- A result with its potential flags (R160 to R163). -/
structure AluOut (w : Nat) where
  res : BitVec w
  s : Bool
  z : Bool
  h : Bool
  v : Bool
  n : Bool
  c : Bool

/-- `Add8(a, b, c)` (R160). -/
def add8 (a b : Byte) (c : Bool) : AluOut 8 :=
  let t := a.toNat + b.toNat + c.toNat
  let res := BitVec.ofNat 8 t
  { res, s := res.getLsbD 7, z := res == 0,
    h := decide (a.toNat % 16 + b.toNat % 16 + c.toNat > 15),
    v := a.getLsbD 7 == b.getLsbD 7 && res.getLsbD 7 != a.getLsbD 7,
    n := false, c := decide (t > 255) }

/-- `Sub8(a, b, c)` (R161). -/
def sub8 (a b : Byte) (c : Bool) : AluOut 8 :=
  let t : Int := (a.toNat : Int) - b.toNat - c.toNat
  let res := BitVec.ofInt 8 t
  { res, s := res.getLsbD 7, z := res == 0,
    h := decide (((a.toNat % 16 : Nat) : Int) - (b.toNat % 16 : Nat) - c.toNat < 0),
    v := a.getLsbD 7 != b.getLsbD 7 && res.getLsbD 7 != a.getLsbD 7,
    n := true, c := decide (t < 0) }

/-- `Add16(a, b, c)` (R162). -/
def add16 (a b : Word) (c : Bool) : AluOut 16 :=
  let t := a.toNat + b.toNat + c.toNat
  let res := BitVec.ofNat 16 t
  { res, s := res.getLsbD 15, z := res == 0,
    h := decide (a.toNat % 4096 + b.toNat % 4096 + c.toNat > 4095),
    v := a.getLsbD 15 == b.getLsbD 15 && res.getLsbD 15 != a.getLsbD 15,
    n := false, c := decide (t > 65535) }

/-- `Sub16(a, b, c)` (R163). -/
def sub16 (a b : Word) (c : Bool) : AluOut 16 :=
  let t : Int := (a.toNat : Int) - b.toNat - c.toNat
  let res := BitVec.ofInt 16 t
  { res, s := res.getLsbD 15, z := res == 0,
    h := decide (((a.toNat % 4096 : Nat) : Int) - (b.toNat % 4096 : Nat) - c.toNat < 0),
    v := a.getLsbD 15 != b.getLsbD 15 && res.getLsbD 15 != a.getLsbD 15,
    n := true, c := decide (t < 0) }

/-- Commit `S Z H PV(V) N C` and leave bits 5 and 3 (R98: `+++V0+`, `+++V1+`). -/
def Flags.commitSZHVNC {w : Nat} (x : Flags) (o : AluOut w) : Flags :=
  { x with s := o.s, z := o.z, h := o.h, pv := o.v, n := o.n, c := o.c }

/-- Commit `S Z H PV(V) N` and leave `C` and bits 5 and 3 (R98: `+++V0-`, `+++V1-`). -/
def Flags.commitSZHVN {w : Nat} (x : Flags) (o : AluOut w) : Flags :=
  { x with s := o.s, z := o.z, h := o.h, pv := o.v, n := o.n }

/-- Commit `H N C` only (R98: `--+-0+`). -/
def Flags.commitHNC {w : Nat} (x : Flags) (o : AluOut w) : Flags :=
  { x with h := o.h, n := o.n, c := o.c }

/-- Commit `S Z PV(P)` from a result byte, `H` and `N` cleared, bits 5 and 3 from the same byte, `C` left
(R98, R101: `++0P0-`). -/
def Flags.commitSZP (x : Flags) (res : Byte) : Flags :=
  ({ x with s := res.getLsbD 7, z := res == 0, h := false, pv := parity res, n := false } : Flags).bits53 res

/-- The rotate and shift operations (R86, R340). -/
inductive RotOp where
  | rlc | rrc | rl | rr | sla | sra | sll | srl
deriving DecidableEq, Repr

/-- `Rot(op, v, c)`: the result and the carry out (R340). -/
def rot (op : RotOp) (v : Byte) (c : Bool) : Byte × Bool :=
  match op with
  | .rlc => ((v <<< 1) ||| (v >>> 7), v.getLsbD 7)
  | .rrc => ((v >>> 1) ||| (v <<< 7), v.getLsbD 0)
  | .rl => ((v <<< 1) ||| (BitVec.ofBool c).zeroExtend 8, v.getLsbD 7)
  | .rr => ((v >>> 1) ||| ((BitVec.ofBool c).zeroExtend 8 <<< 7), v.getLsbD 0)
  | .sla => (v <<< 1, v.getLsbD 7)
  | .sra => ((v >>> 1) ||| (v &&& 0x80#8), v.getLsbD 0)
  | .sll => ((v <<< 1) ||| 1#8, v.getLsbD 7)
  | .srl => (v >>> 1, v.getLsbD 0)

end Sys2Proof.Machine
end

