-- ==== Sys2Proof/Machine/Arith.lean ====
section
/-! DEFINITION. Arithmetic instructions (spec 42_arith.md R164 to R180). -/

namespace Sys2Proof.Machine

/-- `(res, f) <- Add8(A, s, c); A <- res`, bits 5 and 3 from the new `A` (R165, R166). -/
def addToA (len : Nat) (src : Src8) (carry : Bool) (s : State) : Host.Outcome State Fault Refusal :=
  s.finish len do
    let v ← s.src8 src
    let o := add8 s.a v carry
    return (s.setReg8 .a o.res).setFlags ((s.flags.commitSZHVNC o).bits53 o.res)

/-- `(res, f) <- Sub8(A, s, c); A <- res`, bits 5 and 3 from the new `A` (R167, R168). -/
def subFromA (len : Nat) (src : Src8) (carry : Bool) (s : State) : Host.Outcome State Fault Refusal :=
  s.finish len do
    let v ← s.src8 src
    let o := sub8 s.a v carry
    return (s.setReg8 .a o.res).setFlags ((s.flags.commitSZHVNC o).bits53 o.res)

/-- `inc r` (R169): `C` is unchanged. -/
def incReg (r : Reg8) (s : State) : Host.Outcome State Fault Refusal :=
  let o := add8 (s.reg8 r) 1 false
  .next ((s.setReg8 r o.res).setFlags ((s.flags.commitSZHVN o).bits53 o.res))

/-- `dec r` (R171): `C` is unchanged. -/
def decReg (r : Reg8) (s : State) : Host.Outcome State Fault Refusal :=
  let o := sub8 (s.reg8 r) 1 false
  .next ((s.setReg8 r o.res).setFlags ((s.flags.commitSZHVN o).bits53 o.res))

/-- `inc m` (R170): read, then write, then commit. -/
def incMem (len : Nat) (loc : Loc) (s : State) : Host.Outcome State Fault Refusal :=
  s.finish len do
    let a ← s.effAddr loc
    let v ← s.memRead a
    let o := add8 v 1 false
    let s1 ← s.memWrite a o.res
    return s1.setFlags ((s.flags.commitSZHVN o).bits53 o.res)

/-- `dec m` (R172): read, then write, then commit. -/
def decMem (len : Nat) (loc : Loc) (s : State) : Host.Outcome State Fault Refusal :=
  s.finish len do
    let a ← s.effAddr loc
    let v ← s.memRead a
    let o := sub8 v 1 false
    let s1 ← s.memWrite a o.res
    return s1.setFlags ((s.flags.commitSZHVN o).bits53 o.res)

/-- `add hl,ss`, `add ix,pp`, `add iy,rr` (R173, R176): `H`, `N`, `C` committed, bits 5 and 3 from the high byte. -/
def addPair (dst src : Pair) (s : State) : Host.Outcome State Fault Refusal :=
  let o := add16 (s.pair dst) (s.pair src) false
  .next ((s.setPair dst o.res).setFlags ((s.flags.commitHNC o).bits53 (highByte o.res)))

/-- `adc hl,ss` (R174). -/
def adcHl (src : Pair) (s : State) : Host.Outcome State Fault Refusal :=
  let o := add16 (s.pair .hl) (s.pair src) s.flags.c
  .next ((s.setPair .hl o.res).setFlags ((s.flags.commitSZHVNC o).bits53 (highByte o.res)))

/-- `sbc hl,ss` (R175). -/
def sbcHl (src : Pair) (s : State) : Host.Outcome State Fault Refusal :=
  let o := sub16 (s.pair .hl) (s.pair src) s.flags.c
  .next ((s.setPair .hl o.res).setFlags ((s.flags.commitSZHVNC o).bits53 (highByte o.res)))

/-- `inc ss`, `inc ix`, `inc iy` (R177, R178): no flag. -/
def incPair (p : Pair) (s : State) : Host.Outcome State Fault Refusal :=
  .next (s.setPair p (s.pair p + 1))

/-- `dec ss`, `dec ix`, `dec iy` (R179, R180): no flag. -/
def decPair (p : Pair) (s : State) : Host.Outcome State Fault Refusal :=
  .next (s.setPair p (s.pair p - 1))

/-! ## The meanings -/

/-- `inc bc` (R177). -/
def exec_inc_bc (s : State) : Host.Outcome State Fault Refusal :=
  incPair .bc s

/-- `inc b` (R169). -/
def exec_inc_b (s : State) : Host.Outcome State Fault Refusal :=
  incReg .b s

/-- `dec b` (R171). -/
def exec_dec_b (s : State) : Host.Outcome State Fault Refusal :=
  decReg .b s

/-- `add hl,bc` (R173). -/
def exec_add_hl_bc (s : State) : Host.Outcome State Fault Refusal :=
  addPair .hl .bc s

/-- `dec bc` (R179). -/
def exec_dec_bc (s : State) : Host.Outcome State Fault Refusal :=
  decPair .bc s

/-- `inc c` (R169). -/
def exec_inc_c (s : State) : Host.Outcome State Fault Refusal :=
  incReg .c s

/-- `dec c` (R171). -/
def exec_dec_c (s : State) : Host.Outcome State Fault Refusal :=
  decReg .c s

/-- `inc de` (R177). -/
def exec_inc_de (s : State) : Host.Outcome State Fault Refusal :=
  incPair .de s

/-- `inc d` (R169). -/
def exec_inc_d (s : State) : Host.Outcome State Fault Refusal :=
  incReg .d s

/-- `dec d` (R171). -/
def exec_dec_d (s : State) : Host.Outcome State Fault Refusal :=
  decReg .d s

/-- `add hl,de` (R173). -/
def exec_add_hl_de (s : State) : Host.Outcome State Fault Refusal :=
  addPair .hl .de s

/-- `dec de` (R179). -/
def exec_dec_de (s : State) : Host.Outcome State Fault Refusal :=
  decPair .de s

/-- `inc e` (R169). -/
def exec_inc_e (s : State) : Host.Outcome State Fault Refusal :=
  incReg .e s

/-- `dec e` (R171). -/
def exec_dec_e (s : State) : Host.Outcome State Fault Refusal :=
  decReg .e s

/-- `inc hl` (R177). -/
def exec_inc_hl (s : State) : Host.Outcome State Fault Refusal :=
  incPair .hl s

/-- `inc h` (R169). -/
def exec_inc_h (s : State) : Host.Outcome State Fault Refusal :=
  incReg .h s

/-- `dec h` (R171). -/
def exec_dec_h (s : State) : Host.Outcome State Fault Refusal :=
  decReg .h s

/-- `add hl,hl` (R173). -/
def exec_add_hl_hl (s : State) : Host.Outcome State Fault Refusal :=
  addPair .hl .hl s

/-- `dec hl` (R179). -/
def exec_dec_hl (s : State) : Host.Outcome State Fault Refusal :=
  decPair .hl s

/-- `inc l` (R169). -/
def exec_inc_l (s : State) : Host.Outcome State Fault Refusal :=
  incReg .l s

/-- `dec l` (R171). -/
def exec_dec_l (s : State) : Host.Outcome State Fault Refusal :=
  decReg .l s

/-- `inc sp` (R177). -/
def exec_inc_sp (s : State) : Host.Outcome State Fault Refusal :=
  incPair .sp s

/-- `inc (hl)` (R170). -/
def exec_inc_mhl (s : State) : Host.Outcome State Fault Refusal :=
  incMem 1 .hl s

/-- `dec (hl)` (R172). -/
def exec_dec_mhl (s : State) : Host.Outcome State Fault Refusal :=
  decMem 1 .hl s

/-- `add hl,sp` (R173). -/
def exec_add_hl_sp (s : State) : Host.Outcome State Fault Refusal :=
  addPair .hl .sp s

/-- `dec sp` (R179). -/
def exec_dec_sp (s : State) : Host.Outcome State Fault Refusal :=
  decPair .sp s

/-- `inc a` (R169). -/
def exec_inc_a (s : State) : Host.Outcome State Fault Refusal :=
  incReg .a s

/-- `dec a` (R171). -/
def exec_dec_a (s : State) : Host.Outcome State Fault Refusal :=
  decReg .a s

/-- `add a,b` (R165). -/
def exec_add_a_b (s : State) : Host.Outcome State Fault Refusal :=
  addToA 1 (.reg .b) false s

/-- `add a,c` (R165). -/
def exec_add_a_c (s : State) : Host.Outcome State Fault Refusal :=
  addToA 1 (.reg .c) false s

/-- `add a,d` (R165). -/
def exec_add_a_d (s : State) : Host.Outcome State Fault Refusal :=
  addToA 1 (.reg .d) false s

/-- `add a,e` (R165). -/
def exec_add_a_e (s : State) : Host.Outcome State Fault Refusal :=
  addToA 1 (.reg .e) false s

/-- `add a,h` (R165). -/
def exec_add_a_h (s : State) : Host.Outcome State Fault Refusal :=
  addToA 1 (.reg .h) false s

/-- `add a,l` (R165). -/
def exec_add_a_l (s : State) : Host.Outcome State Fault Refusal :=
  addToA 1 (.reg .l) false s

/-- `add a,(hl)` (R165). -/
def exec_add_a_mhl (s : State) : Host.Outcome State Fault Refusal :=
  addToA 1 (.mem .hl) false s

/-- `add a,a` (R165). -/
def exec_add_a_a (s : State) : Host.Outcome State Fault Refusal :=
  addToA 1 (.reg .a) false s

/-- `adc a,b` (R166). -/
def exec_adc_a_b (s : State) : Host.Outcome State Fault Refusal :=
  addToA 1 (.reg .b) s.flags.c s

/-- `adc a,c` (R166). -/
def exec_adc_a_c (s : State) : Host.Outcome State Fault Refusal :=
  addToA 1 (.reg .c) s.flags.c s

/-- `adc a,d` (R166). -/
def exec_adc_a_d (s : State) : Host.Outcome State Fault Refusal :=
  addToA 1 (.reg .d) s.flags.c s

/-- `adc a,e` (R166). -/
def exec_adc_a_e (s : State) : Host.Outcome State Fault Refusal :=
  addToA 1 (.reg .e) s.flags.c s

/-- `adc a,h` (R166). -/
def exec_adc_a_h (s : State) : Host.Outcome State Fault Refusal :=
  addToA 1 (.reg .h) s.flags.c s

/-- `adc a,l` (R166). -/
def exec_adc_a_l (s : State) : Host.Outcome State Fault Refusal :=
  addToA 1 (.reg .l) s.flags.c s

/-- `adc a,(hl)` (R166). -/
def exec_adc_a_mhl (s : State) : Host.Outcome State Fault Refusal :=
  addToA 1 (.mem .hl) s.flags.c s

/-- `adc a,a` (R166). -/
def exec_adc_a_a (s : State) : Host.Outcome State Fault Refusal :=
  addToA 1 (.reg .a) s.flags.c s

/-- `sub b` (R167). -/
def exec_sub_b (s : State) : Host.Outcome State Fault Refusal :=
  subFromA 1 (.reg .b) false s

/-- `sub c` (R167). -/
def exec_sub_c (s : State) : Host.Outcome State Fault Refusal :=
  subFromA 1 (.reg .c) false s

/-- `sub d` (R167). -/
def exec_sub_d (s : State) : Host.Outcome State Fault Refusal :=
  subFromA 1 (.reg .d) false s

/-- `sub e` (R167). -/
def exec_sub_e (s : State) : Host.Outcome State Fault Refusal :=
  subFromA 1 (.reg .e) false s

/-- `sub h` (R167). -/
def exec_sub_h (s : State) : Host.Outcome State Fault Refusal :=
  subFromA 1 (.reg .h) false s

/-- `sub l` (R167). -/
def exec_sub_l (s : State) : Host.Outcome State Fault Refusal :=
  subFromA 1 (.reg .l) false s

/-- `sub (hl)` (R167). -/
def exec_sub_mhl (s : State) : Host.Outcome State Fault Refusal :=
  subFromA 1 (.mem .hl) false s

/-- `sub a` (R167). -/
def exec_sub_a (s : State) : Host.Outcome State Fault Refusal :=
  subFromA 1 (.reg .a) false s

/-- `sbc a,b` (R168). -/
def exec_sbc_a_b (s : State) : Host.Outcome State Fault Refusal :=
  subFromA 1 (.reg .b) s.flags.c s

/-- `sbc a,c` (R168). -/
def exec_sbc_a_c (s : State) : Host.Outcome State Fault Refusal :=
  subFromA 1 (.reg .c) s.flags.c s

/-- `sbc a,d` (R168). -/
def exec_sbc_a_d (s : State) : Host.Outcome State Fault Refusal :=
  subFromA 1 (.reg .d) s.flags.c s

/-- `sbc a,e` (R168). -/
def exec_sbc_a_e (s : State) : Host.Outcome State Fault Refusal :=
  subFromA 1 (.reg .e) s.flags.c s

/-- `sbc a,h` (R168). -/
def exec_sbc_a_h (s : State) : Host.Outcome State Fault Refusal :=
  subFromA 1 (.reg .h) s.flags.c s

/-- `sbc a,l` (R168). -/
def exec_sbc_a_l (s : State) : Host.Outcome State Fault Refusal :=
  subFromA 1 (.reg .l) s.flags.c s

/-- `sbc a,(hl)` (R168). -/
def exec_sbc_a_mhl (s : State) : Host.Outcome State Fault Refusal :=
  subFromA 1 (.mem .hl) s.flags.c s

/-- `sbc a,a` (R168). -/
def exec_sbc_a_a (s : State) : Host.Outcome State Fault Refusal :=
  subFromA 1 (.reg .a) s.flags.c s

/-- `add a,*` (R165). -/
def exec_add_a_n (n : Byte) (s : State) : Host.Outcome State Fault Refusal :=
  addToA 2 (.imm n) false s

/-- `adc a,*` (R166). -/
def exec_adc_a_n (n : Byte) (s : State) : Host.Outcome State Fault Refusal :=
  addToA 2 (.imm n) s.flags.c s

/-- `sub *` (R167). -/
def exec_sub_n (n : Byte) (s : State) : Host.Outcome State Fault Refusal :=
  subFromA 2 (.imm n) false s

/-- `sbc a,*` (R168). -/
def exec_sbc_a_n (n : Byte) (s : State) : Host.Outcome State Fault Refusal :=
  subFromA 2 (.imm n) s.flags.c s

/-- `sbc hl,bc` (R175). -/
def exec_sbc_hl_bc (s : State) : Host.Outcome State Fault Refusal :=
  sbcHl .bc s

/-- `adc hl,bc` (R174). -/
def exec_adc_hl_bc (s : State) : Host.Outcome State Fault Refusal :=
  adcHl .bc s

/-- `sbc hl,de` (R175). -/
def exec_sbc_hl_de (s : State) : Host.Outcome State Fault Refusal :=
  sbcHl .de s

/-- `adc hl,de` (R174). -/
def exec_adc_hl_de (s : State) : Host.Outcome State Fault Refusal :=
  adcHl .de s

/-- `sbc hl,hl` (R175). -/
def exec_sbc_hl_hl (s : State) : Host.Outcome State Fault Refusal :=
  sbcHl .hl s

/-- `adc hl,hl` (R174). -/
def exec_adc_hl_hl (s : State) : Host.Outcome State Fault Refusal :=
  adcHl .hl s

/-- `sbc hl,sp` (R175). -/
def exec_sbc_hl_sp (s : State) : Host.Outcome State Fault Refusal :=
  sbcHl .sp s

/-- `adc hl,sp` (R174). -/
def exec_adc_hl_sp (s : State) : Host.Outcome State Fault Refusal :=
  adcHl .sp s

/-- `add ix,bc` (R176). -/
def exec_add_ix_bc (s : State) : Host.Outcome State Fault Refusal :=
  addPair .ix .bc s

/-- `add ix,de` (R176). -/
def exec_add_ix_de (s : State) : Host.Outcome State Fault Refusal :=
  addPair .ix .de s

/-- `inc ix` (R178). -/
def exec_inc_ix (s : State) : Host.Outcome State Fault Refusal :=
  incPair .ix s

/-- `inc ixh` (R169). -/
def exec_inc_ixh (s : State) : Host.Outcome State Fault Refusal :=
  incReg .ixh s

/-- `dec ixh` (R171). -/
def exec_dec_ixh (s : State) : Host.Outcome State Fault Refusal :=
  decReg .ixh s

/-- `add ix,ix` (R176). -/
def exec_add_ix_ix (s : State) : Host.Outcome State Fault Refusal :=
  addPair .ix .ix s

/-- `dec ix` (R180). -/
def exec_dec_ix (s : State) : Host.Outcome State Fault Refusal :=
  decPair .ix s

/-- `inc ixl` (R169). -/
def exec_inc_ixl (s : State) : Host.Outcome State Fault Refusal :=
  incReg .ixl s

/-- `dec ixl` (R171). -/
def exec_dec_ixl (s : State) : Host.Outcome State Fault Refusal :=
  decReg .ixl s

/-- `inc (ix+*)` (R170). -/
def exec_inc_mixd (d : Byte) (s : State) : Host.Outcome State Fault Refusal :=
  incMem 3 (.idx .ix d) s

/-- `dec (ix+*)` (R172). -/
def exec_dec_mixd (d : Byte) (s : State) : Host.Outcome State Fault Refusal :=
  decMem 3 (.idx .ix d) s

/-- `add ix,sp` (R176). -/
def exec_add_ix_sp (s : State) : Host.Outcome State Fault Refusal :=
  addPair .ix .sp s

/-- `add a,ixh` (R165). -/
def exec_add_a_ixh (s : State) : Host.Outcome State Fault Refusal :=
  addToA 2 (.reg .ixh) false s

/-- `add a,ixl` (R165). -/
def exec_add_a_ixl (s : State) : Host.Outcome State Fault Refusal :=
  addToA 2 (.reg .ixl) false s

/-- `add a,(ix+*)` (R165). -/
def exec_add_a_mixd (d : Byte) (s : State) : Host.Outcome State Fault Refusal :=
  addToA 3 (.mem (.idx .ix d)) false s

/-- `adc a,ixh` (R166). -/
def exec_adc_a_ixh (s : State) : Host.Outcome State Fault Refusal :=
  addToA 2 (.reg .ixh) s.flags.c s

/-- `adc a,ixl` (R166). -/
def exec_adc_a_ixl (s : State) : Host.Outcome State Fault Refusal :=
  addToA 2 (.reg .ixl) s.flags.c s

/-- `adc a,(ix+*)` (R166). -/
def exec_adc_a_mixd (d : Byte) (s : State) : Host.Outcome State Fault Refusal :=
  addToA 3 (.mem (.idx .ix d)) s.flags.c s

/-- `sub ixh` (R167). -/
def exec_sub_ixh (s : State) : Host.Outcome State Fault Refusal :=
  subFromA 2 (.reg .ixh) false s

/-- `sub ixl` (R167). -/
def exec_sub_ixl (s : State) : Host.Outcome State Fault Refusal :=
  subFromA 2 (.reg .ixl) false s

/-- `sub (ix+*)` (R167). -/
def exec_sub_mixd (d : Byte) (s : State) : Host.Outcome State Fault Refusal :=
  subFromA 3 (.mem (.idx .ix d)) false s

/-- `sbc a,ixh` (R168). -/
def exec_sbc_a_ixh (s : State) : Host.Outcome State Fault Refusal :=
  subFromA 2 (.reg .ixh) s.flags.c s

/-- `sbc a,ixl` (R168). -/
def exec_sbc_a_ixl (s : State) : Host.Outcome State Fault Refusal :=
  subFromA 2 (.reg .ixl) s.flags.c s

/-- `sbc a,(ix+*)` (R168). -/
def exec_sbc_a_mixd (d : Byte) (s : State) : Host.Outcome State Fault Refusal :=
  subFromA 3 (.mem (.idx .ix d)) s.flags.c s

/-- `add iy,bc` (R176). -/
def exec_add_iy_bc (s : State) : Host.Outcome State Fault Refusal :=
  addPair .iy .bc s

/-- `add iy,de` (R176). -/
def exec_add_iy_de (s : State) : Host.Outcome State Fault Refusal :=
  addPair .iy .de s

/-- `inc iy` (R178). -/
def exec_inc_iy (s : State) : Host.Outcome State Fault Refusal :=
  incPair .iy s

/-- `inc iyh` (R169). -/
def exec_inc_iyh (s : State) : Host.Outcome State Fault Refusal :=
  incReg .iyh s

/-- `dec iyh` (R171). -/
def exec_dec_iyh (s : State) : Host.Outcome State Fault Refusal :=
  decReg .iyh s

/-- `add iy,iy` (R176). -/
def exec_add_iy_iy (s : State) : Host.Outcome State Fault Refusal :=
  addPair .iy .iy s

/-- `dec iy` (R180). -/
def exec_dec_iy (s : State) : Host.Outcome State Fault Refusal :=
  decPair .iy s

/-- `inc iyl` (R169). -/
def exec_inc_iyl (s : State) : Host.Outcome State Fault Refusal :=
  incReg .iyl s

/-- `dec iyl` (R171). -/
def exec_dec_iyl (s : State) : Host.Outcome State Fault Refusal :=
  decReg .iyl s

/-- `inc (iy+*)` (R170). -/
def exec_inc_miyd (d : Byte) (s : State) : Host.Outcome State Fault Refusal :=
  incMem 3 (.idx .iy d) s

/-- `dec (iy+*)` (R172). -/
def exec_dec_miyd (d : Byte) (s : State) : Host.Outcome State Fault Refusal :=
  decMem 3 (.idx .iy d) s

/-- `add iy,sp` (R176). -/
def exec_add_iy_sp (s : State) : Host.Outcome State Fault Refusal :=
  addPair .iy .sp s

/-- `add a,iyh` (R165). -/
def exec_add_a_iyh (s : State) : Host.Outcome State Fault Refusal :=
  addToA 2 (.reg .iyh) false s

/-- `add a,iyl` (R165). -/
def exec_add_a_iyl (s : State) : Host.Outcome State Fault Refusal :=
  addToA 2 (.reg .iyl) false s

/-- `add a,(iy+*)` (R165). -/
def exec_add_a_miyd (d : Byte) (s : State) : Host.Outcome State Fault Refusal :=
  addToA 3 (.mem (.idx .iy d)) false s

/-- `adc a,iyh` (R166). -/
def exec_adc_a_iyh (s : State) : Host.Outcome State Fault Refusal :=
  addToA 2 (.reg .iyh) s.flags.c s

/-- `adc a,iyl` (R166). -/
def exec_adc_a_iyl (s : State) : Host.Outcome State Fault Refusal :=
  addToA 2 (.reg .iyl) s.flags.c s

/-- `adc a,(iy+*)` (R166). -/
def exec_adc_a_miyd (d : Byte) (s : State) : Host.Outcome State Fault Refusal :=
  addToA 3 (.mem (.idx .iy d)) s.flags.c s

/-- `sub iyh` (R167). -/
def exec_sub_iyh (s : State) : Host.Outcome State Fault Refusal :=
  subFromA 2 (.reg .iyh) false s

/-- `sub iyl` (R167). -/
def exec_sub_iyl (s : State) : Host.Outcome State Fault Refusal :=
  subFromA 2 (.reg .iyl) false s

/-- `sub (iy+*)` (R167). -/
def exec_sub_miyd (d : Byte) (s : State) : Host.Outcome State Fault Refusal :=
  subFromA 3 (.mem (.idx .iy d)) false s

/-- `sbc a,iyh` (R168). -/
def exec_sbc_a_iyh (s : State) : Host.Outcome State Fault Refusal :=
  subFromA 2 (.reg .iyh) s.flags.c s

/-- `sbc a,iyl` (R168). -/
def exec_sbc_a_iyl (s : State) : Host.Outcome State Fault Refusal :=
  subFromA 2 (.reg .iyl) s.flags.c s

/-- `sbc a,(iy+*)` (R168). -/
def exec_sbc_a_miyd (d : Byte) (s : State) : Host.Outcome State Fault Refusal :=
  subFromA 3 (.mem (.idx .iy d)) s.flags.c s

end Sys2Proof.Machine
end

