-- ==== Sys2Proof/Machine/Bit.lean ====
section
/-! DEFINITION. Bit test, set and reset (spec 47_bit.md R290 to R298). -/

namespace Sys2Proof.Machine

/-- The flags of `bit b` on the byte `v`, bits 5 and 3 from `src` (R290 to R292); `C` is unchanged. -/
def Flags.bitTest (x : Flags) (b : Nat) (v src : Byte) : Flags :=
  let t := v.getLsbD b
  ({ x with z := !t, s := b == 7 && t, pv := !t, h := true, n := false } : Flags).bits53 src

/-- `v | (1 << b)` (R293 to R295). -/
def setBit (b : Nat) (v : Byte) : Byte := v ||| (1#8 <<< b)

/-- `v & (255 - (1 << b))` (R296 to R298). -/
def resBit (b : Nat) (v : Byte) : Byte := v &&& (255#8 - (1#8 <<< b))

/-- `bit b,r` (R290). -/
def bitReg (b : Nat) (r : Reg8) (s : State) : Host.Outcome State Fault Refusal :=
  .next (s.setFlags (s.flags.bitTest b (s.reg8 r) (s.reg8 r)))

/-- `bit b,(hl)` (R291): bits 5 and 3 from the tested byte. -/
def bitHl (b : Nat) (s : State) : Host.Outcome State Fault Refusal :=
  s.finish 2 do
    let v ← s.memRead (s.pair .hl)
    return s.setFlags (s.flags.bitTest b v v)

/-- `bit b,(ix+d)`, `bit b,(iy+d)` (R292): bits 5 and 3 from the high byte of `EA`. -/
def bitIdx (b : Nat) (x : Idx) (d : Byte) (s : State) : Host.Outcome State Fault Refusal :=
  s.finish 4 do
    let ea ← s.effAddr (.idx x d)
    let v ← s.memRead ea
    return s.setFlags (s.flags.bitTest b v (highByte ea))

/-- `r <- f(r)` with no flag (R293, R296). -/
def mapReg (f : Byte → Byte) (r : Reg8) (s : State) : Host.Outcome State Fault Refusal :=
  .next (s.setReg8 r (f (s.reg8 r)))

/-- `MemWrite(EA, 1, f(MemRead(EA, 1)))` with no flag, the result copied into a register if one is named, after the memory
write (R294, R295, R297, R298). -/
def mapMem (len : Nat) (f : Byte → Byte) (loc : Loc) (copy : Option Reg8) (s : State) : Host.Outcome State Fault Refusal :=
  s.finish len do
    let a ← s.effAddr loc
    let v ← s.memRead a
    let s1 ← s.memWrite a (f v)
    return s1.copyTo copy (f v)

/-! ## The meanings -/

/-- `bit 0,b` (R290). -/
def exec_bit_0_b (s : State) : Host.Outcome State Fault Refusal :=
  bitReg 0 .b s

/-- `bit 0,c` (R290). -/
def exec_bit_0_c (s : State) : Host.Outcome State Fault Refusal :=
  bitReg 0 .c s

/-- `bit 0,d` (R290). -/
def exec_bit_0_d (s : State) : Host.Outcome State Fault Refusal :=
  bitReg 0 .d s

/-- `bit 0,e` (R290). -/
def exec_bit_0_e (s : State) : Host.Outcome State Fault Refusal :=
  bitReg 0 .e s

/-- `bit 0,h` (R290). -/
def exec_bit_0_h (s : State) : Host.Outcome State Fault Refusal :=
  bitReg 0 .h s

/-- `bit 0,l` (R290). -/
def exec_bit_0_l (s : State) : Host.Outcome State Fault Refusal :=
  bitReg 0 .l s

/-- `bit 0,(hl)` (R291). -/
def exec_bit_0_mhl (s : State) : Host.Outcome State Fault Refusal :=
  bitHl 0 s

/-- `bit 0,a` (R290). -/
def exec_bit_0_a (s : State) : Host.Outcome State Fault Refusal :=
  bitReg 0 .a s

/-- `bit 1,b` (R290). -/
def exec_bit_1_b (s : State) : Host.Outcome State Fault Refusal :=
  bitReg 1 .b s

/-- `bit 1,c` (R290). -/
def exec_bit_1_c (s : State) : Host.Outcome State Fault Refusal :=
  bitReg 1 .c s

/-- `bit 1,d` (R290). -/
def exec_bit_1_d (s : State) : Host.Outcome State Fault Refusal :=
  bitReg 1 .d s

/-- `bit 1,e` (R290). -/
def exec_bit_1_e (s : State) : Host.Outcome State Fault Refusal :=
  bitReg 1 .e s

/-- `bit 1,h` (R290). -/
def exec_bit_1_h (s : State) : Host.Outcome State Fault Refusal :=
  bitReg 1 .h s

/-- `bit 1,l` (R290). -/
def exec_bit_1_l (s : State) : Host.Outcome State Fault Refusal :=
  bitReg 1 .l s

/-- `bit 1,(hl)` (R291). -/
def exec_bit_1_mhl (s : State) : Host.Outcome State Fault Refusal :=
  bitHl 1 s

/-- `bit 1,a` (R290). -/
def exec_bit_1_a (s : State) : Host.Outcome State Fault Refusal :=
  bitReg 1 .a s

/-- `bit 2,b` (R290). -/
def exec_bit_2_b (s : State) : Host.Outcome State Fault Refusal :=
  bitReg 2 .b s

/-- `bit 2,c` (R290). -/
def exec_bit_2_c (s : State) : Host.Outcome State Fault Refusal :=
  bitReg 2 .c s

/-- `bit 2,d` (R290). -/
def exec_bit_2_d (s : State) : Host.Outcome State Fault Refusal :=
  bitReg 2 .d s

/-- `bit 2,e` (R290). -/
def exec_bit_2_e (s : State) : Host.Outcome State Fault Refusal :=
  bitReg 2 .e s

/-- `bit 2,h` (R290). -/
def exec_bit_2_h (s : State) : Host.Outcome State Fault Refusal :=
  bitReg 2 .h s

/-- `bit 2,l` (R290). -/
def exec_bit_2_l (s : State) : Host.Outcome State Fault Refusal :=
  bitReg 2 .l s

/-- `bit 2,(hl)` (R291). -/
def exec_bit_2_mhl (s : State) : Host.Outcome State Fault Refusal :=
  bitHl 2 s

/-- `bit 2,a` (R290). -/
def exec_bit_2_a (s : State) : Host.Outcome State Fault Refusal :=
  bitReg 2 .a s

/-- `bit 3,b` (R290). -/
def exec_bit_3_b (s : State) : Host.Outcome State Fault Refusal :=
  bitReg 3 .b s

/-- `bit 3,c` (R290). -/
def exec_bit_3_c (s : State) : Host.Outcome State Fault Refusal :=
  bitReg 3 .c s

/-- `bit 3,d` (R290). -/
def exec_bit_3_d (s : State) : Host.Outcome State Fault Refusal :=
  bitReg 3 .d s

/-- `bit 3,e` (R290). -/
def exec_bit_3_e (s : State) : Host.Outcome State Fault Refusal :=
  bitReg 3 .e s

/-- `bit 3,h` (R290). -/
def exec_bit_3_h (s : State) : Host.Outcome State Fault Refusal :=
  bitReg 3 .h s

/-- `bit 3,l` (R290). -/
def exec_bit_3_l (s : State) : Host.Outcome State Fault Refusal :=
  bitReg 3 .l s

/-- `bit 3,(hl)` (R291). -/
def exec_bit_3_mhl (s : State) : Host.Outcome State Fault Refusal :=
  bitHl 3 s

/-- `bit 3,a` (R290). -/
def exec_bit_3_a (s : State) : Host.Outcome State Fault Refusal :=
  bitReg 3 .a s

/-- `bit 4,b` (R290). -/
def exec_bit_4_b (s : State) : Host.Outcome State Fault Refusal :=
  bitReg 4 .b s

/-- `bit 4,c` (R290). -/
def exec_bit_4_c (s : State) : Host.Outcome State Fault Refusal :=
  bitReg 4 .c s

/-- `bit 4,d` (R290). -/
def exec_bit_4_d (s : State) : Host.Outcome State Fault Refusal :=
  bitReg 4 .d s

/-- `bit 4,e` (R290). -/
def exec_bit_4_e (s : State) : Host.Outcome State Fault Refusal :=
  bitReg 4 .e s

/-- `bit 4,h` (R290). -/
def exec_bit_4_h (s : State) : Host.Outcome State Fault Refusal :=
  bitReg 4 .h s

/-- `bit 4,l` (R290). -/
def exec_bit_4_l (s : State) : Host.Outcome State Fault Refusal :=
  bitReg 4 .l s

/-- `bit 4,(hl)` (R291). -/
def exec_bit_4_mhl (s : State) : Host.Outcome State Fault Refusal :=
  bitHl 4 s

/-- `bit 4,a` (R290). -/
def exec_bit_4_a (s : State) : Host.Outcome State Fault Refusal :=
  bitReg 4 .a s

/-- `bit 5,b` (R290). -/
def exec_bit_5_b (s : State) : Host.Outcome State Fault Refusal :=
  bitReg 5 .b s

/-- `bit 5,c` (R290). -/
def exec_bit_5_c (s : State) : Host.Outcome State Fault Refusal :=
  bitReg 5 .c s

/-- `bit 5,d` (R290). -/
def exec_bit_5_d (s : State) : Host.Outcome State Fault Refusal :=
  bitReg 5 .d s

/-- `bit 5,e` (R290). -/
def exec_bit_5_e (s : State) : Host.Outcome State Fault Refusal :=
  bitReg 5 .e s

/-- `bit 5,h` (R290). -/
def exec_bit_5_h (s : State) : Host.Outcome State Fault Refusal :=
  bitReg 5 .h s

/-- `bit 5,l` (R290). -/
def exec_bit_5_l (s : State) : Host.Outcome State Fault Refusal :=
  bitReg 5 .l s

/-- `bit 5,(hl)` (R291). -/
def exec_bit_5_mhl (s : State) : Host.Outcome State Fault Refusal :=
  bitHl 5 s

/-- `bit 5,a` (R290). -/
def exec_bit_5_a (s : State) : Host.Outcome State Fault Refusal :=
  bitReg 5 .a s

/-- `bit 6,b` (R290). -/
def exec_bit_6_b (s : State) : Host.Outcome State Fault Refusal :=
  bitReg 6 .b s

/-- `bit 6,c` (R290). -/
def exec_bit_6_c (s : State) : Host.Outcome State Fault Refusal :=
  bitReg 6 .c s

/-- `bit 6,d` (R290). -/
def exec_bit_6_d (s : State) : Host.Outcome State Fault Refusal :=
  bitReg 6 .d s

/-- `bit 6,e` (R290). -/
def exec_bit_6_e (s : State) : Host.Outcome State Fault Refusal :=
  bitReg 6 .e s

/-- `bit 6,h` (R290). -/
def exec_bit_6_h (s : State) : Host.Outcome State Fault Refusal :=
  bitReg 6 .h s

/-- `bit 6,l` (R290). -/
def exec_bit_6_l (s : State) : Host.Outcome State Fault Refusal :=
  bitReg 6 .l s

/-- `bit 6,(hl)` (R291). -/
def exec_bit_6_mhl (s : State) : Host.Outcome State Fault Refusal :=
  bitHl 6 s

/-- `bit 6,a` (R290). -/
def exec_bit_6_a (s : State) : Host.Outcome State Fault Refusal :=
  bitReg 6 .a s

/-- `bit 7,b` (R290). -/
def exec_bit_7_b (s : State) : Host.Outcome State Fault Refusal :=
  bitReg 7 .b s

/-- `bit 7,c` (R290). -/
def exec_bit_7_c (s : State) : Host.Outcome State Fault Refusal :=
  bitReg 7 .c s

/-- `bit 7,d` (R290). -/
def exec_bit_7_d (s : State) : Host.Outcome State Fault Refusal :=
  bitReg 7 .d s

/-- `bit 7,e` (R290). -/
def exec_bit_7_e (s : State) : Host.Outcome State Fault Refusal :=
  bitReg 7 .e s

/-- `bit 7,h` (R290). -/
def exec_bit_7_h (s : State) : Host.Outcome State Fault Refusal :=
  bitReg 7 .h s

/-- `bit 7,l` (R290). -/
def exec_bit_7_l (s : State) : Host.Outcome State Fault Refusal :=
  bitReg 7 .l s

/-- `bit 7,(hl)` (R291). -/
def exec_bit_7_mhl (s : State) : Host.Outcome State Fault Refusal :=
  bitHl 7 s

/-- `bit 7,a` (R290). -/
def exec_bit_7_a (s : State) : Host.Outcome State Fault Refusal :=
  bitReg 7 .a s

/-- `res 0,b` (R296). -/
def exec_res_0_b (s : State) : Host.Outcome State Fault Refusal :=
  mapReg (resBit 0) .b s

/-- `res 0,c` (R296). -/
def exec_res_0_c (s : State) : Host.Outcome State Fault Refusal :=
  mapReg (resBit 0) .c s

/-- `res 0,d` (R296). -/
def exec_res_0_d (s : State) : Host.Outcome State Fault Refusal :=
  mapReg (resBit 0) .d s

/-- `res 0,e` (R296). -/
def exec_res_0_e (s : State) : Host.Outcome State Fault Refusal :=
  mapReg (resBit 0) .e s

/-- `res 0,h` (R296). -/
def exec_res_0_h (s : State) : Host.Outcome State Fault Refusal :=
  mapReg (resBit 0) .h s

/-- `res 0,l` (R296). -/
def exec_res_0_l (s : State) : Host.Outcome State Fault Refusal :=
  mapReg (resBit 0) .l s

/-- `res 0,(hl)` (R297). -/
def exec_res_0_mhl (s : State) : Host.Outcome State Fault Refusal :=
  mapMem 2 (resBit 0) .hl none s

/-- `res 0,a` (R296). -/
def exec_res_0_a (s : State) : Host.Outcome State Fault Refusal :=
  mapReg (resBit 0) .a s

/-- `res 1,b` (R296). -/
def exec_res_1_b (s : State) : Host.Outcome State Fault Refusal :=
  mapReg (resBit 1) .b s

/-- `res 1,c` (R296). -/
def exec_res_1_c (s : State) : Host.Outcome State Fault Refusal :=
  mapReg (resBit 1) .c s

/-- `res 1,d` (R296). -/
def exec_res_1_d (s : State) : Host.Outcome State Fault Refusal :=
  mapReg (resBit 1) .d s

/-- `res 1,e` (R296). -/
def exec_res_1_e (s : State) : Host.Outcome State Fault Refusal :=
  mapReg (resBit 1) .e s

/-- `res 1,h` (R296). -/
def exec_res_1_h (s : State) : Host.Outcome State Fault Refusal :=
  mapReg (resBit 1) .h s

/-- `res 1,l` (R296). -/
def exec_res_1_l (s : State) : Host.Outcome State Fault Refusal :=
  mapReg (resBit 1) .l s

/-- `res 1,(hl)` (R297). -/
def exec_res_1_mhl (s : State) : Host.Outcome State Fault Refusal :=
  mapMem 2 (resBit 1) .hl none s

/-- `res 1,a` (R296). -/
def exec_res_1_a (s : State) : Host.Outcome State Fault Refusal :=
  mapReg (resBit 1) .a s

/-- `res 2,b` (R296). -/
def exec_res_2_b (s : State) : Host.Outcome State Fault Refusal :=
  mapReg (resBit 2) .b s

/-- `res 2,c` (R296). -/
def exec_res_2_c (s : State) : Host.Outcome State Fault Refusal :=
  mapReg (resBit 2) .c s

/-- `res 2,d` (R296). -/
def exec_res_2_d (s : State) : Host.Outcome State Fault Refusal :=
  mapReg (resBit 2) .d s

/-- `res 2,e` (R296). -/
def exec_res_2_e (s : State) : Host.Outcome State Fault Refusal :=
  mapReg (resBit 2) .e s

/-- `res 2,h` (R296). -/
def exec_res_2_h (s : State) : Host.Outcome State Fault Refusal :=
  mapReg (resBit 2) .h s

/-- `res 2,l` (R296). -/
def exec_res_2_l (s : State) : Host.Outcome State Fault Refusal :=
  mapReg (resBit 2) .l s

/-- `res 2,(hl)` (R297). -/
def exec_res_2_mhl (s : State) : Host.Outcome State Fault Refusal :=
  mapMem 2 (resBit 2) .hl none s

/-- `res 2,a` (R296). -/
def exec_res_2_a (s : State) : Host.Outcome State Fault Refusal :=
  mapReg (resBit 2) .a s

/-- `res 3,b` (R296). -/
def exec_res_3_b (s : State) : Host.Outcome State Fault Refusal :=
  mapReg (resBit 3) .b s

/-- `res 3,c` (R296). -/
def exec_res_3_c (s : State) : Host.Outcome State Fault Refusal :=
  mapReg (resBit 3) .c s

/-- `res 3,d` (R296). -/
def exec_res_3_d (s : State) : Host.Outcome State Fault Refusal :=
  mapReg (resBit 3) .d s

/-- `res 3,e` (R296). -/
def exec_res_3_e (s : State) : Host.Outcome State Fault Refusal :=
  mapReg (resBit 3) .e s

/-- `res 3,h` (R296). -/
def exec_res_3_h (s : State) : Host.Outcome State Fault Refusal :=
  mapReg (resBit 3) .h s

/-- `res 3,l` (R296). -/
def exec_res_3_l (s : State) : Host.Outcome State Fault Refusal :=
  mapReg (resBit 3) .l s

/-- `res 3,(hl)` (R297). -/
def exec_res_3_mhl (s : State) : Host.Outcome State Fault Refusal :=
  mapMem 2 (resBit 3) .hl none s

/-- `res 3,a` (R296). -/
def exec_res_3_a (s : State) : Host.Outcome State Fault Refusal :=
  mapReg (resBit 3) .a s

/-- `res 4,b` (R296). -/
def exec_res_4_b (s : State) : Host.Outcome State Fault Refusal :=
  mapReg (resBit 4) .b s

/-- `res 4,c` (R296). -/
def exec_res_4_c (s : State) : Host.Outcome State Fault Refusal :=
  mapReg (resBit 4) .c s

/-- `res 4,d` (R296). -/
def exec_res_4_d (s : State) : Host.Outcome State Fault Refusal :=
  mapReg (resBit 4) .d s

/-- `res 4,e` (R296). -/
def exec_res_4_e (s : State) : Host.Outcome State Fault Refusal :=
  mapReg (resBit 4) .e s

/-- `res 4,h` (R296). -/
def exec_res_4_h (s : State) : Host.Outcome State Fault Refusal :=
  mapReg (resBit 4) .h s

/-- `res 4,l` (R296). -/
def exec_res_4_l (s : State) : Host.Outcome State Fault Refusal :=
  mapReg (resBit 4) .l s

/-- `res 4,(hl)` (R297). -/
def exec_res_4_mhl (s : State) : Host.Outcome State Fault Refusal :=
  mapMem 2 (resBit 4) .hl none s

/-- `res 4,a` (R296). -/
def exec_res_4_a (s : State) : Host.Outcome State Fault Refusal :=
  mapReg (resBit 4) .a s

/-- `res 5,b` (R296). -/
def exec_res_5_b (s : State) : Host.Outcome State Fault Refusal :=
  mapReg (resBit 5) .b s

/-- `res 5,c` (R296). -/
def exec_res_5_c (s : State) : Host.Outcome State Fault Refusal :=
  mapReg (resBit 5) .c s

/-- `res 5,d` (R296). -/
def exec_res_5_d (s : State) : Host.Outcome State Fault Refusal :=
  mapReg (resBit 5) .d s

/-- `res 5,e` (R296). -/
def exec_res_5_e (s : State) : Host.Outcome State Fault Refusal :=
  mapReg (resBit 5) .e s

/-- `res 5,h` (R296). -/
def exec_res_5_h (s : State) : Host.Outcome State Fault Refusal :=
  mapReg (resBit 5) .h s

/-- `res 5,l` (R296). -/
def exec_res_5_l (s : State) : Host.Outcome State Fault Refusal :=
  mapReg (resBit 5) .l s

/-- `res 5,(hl)` (R297). -/
def exec_res_5_mhl (s : State) : Host.Outcome State Fault Refusal :=
  mapMem 2 (resBit 5) .hl none s

/-- `res 5,a` (R296). -/
def exec_res_5_a (s : State) : Host.Outcome State Fault Refusal :=
  mapReg (resBit 5) .a s

/-- `res 6,b` (R296). -/
def exec_res_6_b (s : State) : Host.Outcome State Fault Refusal :=
  mapReg (resBit 6) .b s

/-- `res 6,c` (R296). -/
def exec_res_6_c (s : State) : Host.Outcome State Fault Refusal :=
  mapReg (resBit 6) .c s

/-- `res 6,d` (R296). -/
def exec_res_6_d (s : State) : Host.Outcome State Fault Refusal :=
  mapReg (resBit 6) .d s

/-- `res 6,e` (R296). -/
def exec_res_6_e (s : State) : Host.Outcome State Fault Refusal :=
  mapReg (resBit 6) .e s

/-- `res 6,h` (R296). -/
def exec_res_6_h (s : State) : Host.Outcome State Fault Refusal :=
  mapReg (resBit 6) .h s

/-- `res 6,l` (R296). -/
def exec_res_6_l (s : State) : Host.Outcome State Fault Refusal :=
  mapReg (resBit 6) .l s

/-- `res 6,(hl)` (R297). -/
def exec_res_6_mhl (s : State) : Host.Outcome State Fault Refusal :=
  mapMem 2 (resBit 6) .hl none s

/-- `res 6,a` (R296). -/
def exec_res_6_a (s : State) : Host.Outcome State Fault Refusal :=
  mapReg (resBit 6) .a s

/-- `res 7,b` (R296). -/
def exec_res_7_b (s : State) : Host.Outcome State Fault Refusal :=
  mapReg (resBit 7) .b s

/-- `res 7,c` (R296). -/
def exec_res_7_c (s : State) : Host.Outcome State Fault Refusal :=
  mapReg (resBit 7) .c s

/-- `res 7,d` (R296). -/
def exec_res_7_d (s : State) : Host.Outcome State Fault Refusal :=
  mapReg (resBit 7) .d s

/-- `res 7,e` (R296). -/
def exec_res_7_e (s : State) : Host.Outcome State Fault Refusal :=
  mapReg (resBit 7) .e s

/-- `res 7,h` (R296). -/
def exec_res_7_h (s : State) : Host.Outcome State Fault Refusal :=
  mapReg (resBit 7) .h s

/-- `res 7,l` (R296). -/
def exec_res_7_l (s : State) : Host.Outcome State Fault Refusal :=
  mapReg (resBit 7) .l s

/-- `res 7,(hl)` (R297). -/
def exec_res_7_mhl (s : State) : Host.Outcome State Fault Refusal :=
  mapMem 2 (resBit 7) .hl none s

/-- `res 7,a` (R296). -/
def exec_res_7_a (s : State) : Host.Outcome State Fault Refusal :=
  mapReg (resBit 7) .a s

/-- `set 0,b` (R293). -/
def exec_set_0_b (s : State) : Host.Outcome State Fault Refusal :=
  mapReg (setBit 0) .b s

/-- `set 0,c` (R293). -/
def exec_set_0_c (s : State) : Host.Outcome State Fault Refusal :=
  mapReg (setBit 0) .c s

/-- `set 0,d` (R293). -/
def exec_set_0_d (s : State) : Host.Outcome State Fault Refusal :=
  mapReg (setBit 0) .d s

/-- `set 0,e` (R293). -/
def exec_set_0_e (s : State) : Host.Outcome State Fault Refusal :=
  mapReg (setBit 0) .e s

/-- `set 0,h` (R293). -/
def exec_set_0_h (s : State) : Host.Outcome State Fault Refusal :=
  mapReg (setBit 0) .h s

/-- `set 0,l` (R293). -/
def exec_set_0_l (s : State) : Host.Outcome State Fault Refusal :=
  mapReg (setBit 0) .l s

/-- `set 0,(hl)` (R294). -/
def exec_set_0_mhl (s : State) : Host.Outcome State Fault Refusal :=
  mapMem 2 (setBit 0) .hl none s

/-- `set 0,a` (R293). -/
def exec_set_0_a (s : State) : Host.Outcome State Fault Refusal :=
  mapReg (setBit 0) .a s

/-- `set 1,b` (R293). -/
def exec_set_1_b (s : State) : Host.Outcome State Fault Refusal :=
  mapReg (setBit 1) .b s

/-- `set 1,c` (R293). -/
def exec_set_1_c (s : State) : Host.Outcome State Fault Refusal :=
  mapReg (setBit 1) .c s

/-- `set 1,d` (R293). -/
def exec_set_1_d (s : State) : Host.Outcome State Fault Refusal :=
  mapReg (setBit 1) .d s

/-- `set 1,e` (R293). -/
def exec_set_1_e (s : State) : Host.Outcome State Fault Refusal :=
  mapReg (setBit 1) .e s

/-- `set 1,h` (R293). -/
def exec_set_1_h (s : State) : Host.Outcome State Fault Refusal :=
  mapReg (setBit 1) .h s

/-- `set 1,l` (R293). -/
def exec_set_1_l (s : State) : Host.Outcome State Fault Refusal :=
  mapReg (setBit 1) .l s

/-- `set 1,(hl)` (R294). -/
def exec_set_1_mhl (s : State) : Host.Outcome State Fault Refusal :=
  mapMem 2 (setBit 1) .hl none s

/-- `set 1,a` (R293). -/
def exec_set_1_a (s : State) : Host.Outcome State Fault Refusal :=
  mapReg (setBit 1) .a s

/-- `set 2,b` (R293). -/
def exec_set_2_b (s : State) : Host.Outcome State Fault Refusal :=
  mapReg (setBit 2) .b s

/-- `set 2,c` (R293). -/
def exec_set_2_c (s : State) : Host.Outcome State Fault Refusal :=
  mapReg (setBit 2) .c s

/-- `set 2,d` (R293). -/
def exec_set_2_d (s : State) : Host.Outcome State Fault Refusal :=
  mapReg (setBit 2) .d s

/-- `set 2,e` (R293). -/
def exec_set_2_e (s : State) : Host.Outcome State Fault Refusal :=
  mapReg (setBit 2) .e s

/-- `set 2,h` (R293). -/
def exec_set_2_h (s : State) : Host.Outcome State Fault Refusal :=
  mapReg (setBit 2) .h s

/-- `set 2,l` (R293). -/
def exec_set_2_l (s : State) : Host.Outcome State Fault Refusal :=
  mapReg (setBit 2) .l s

/-- `set 2,(hl)` (R294). -/
def exec_set_2_mhl (s : State) : Host.Outcome State Fault Refusal :=
  mapMem 2 (setBit 2) .hl none s

/-- `set 2,a` (R293). -/
def exec_set_2_a (s : State) : Host.Outcome State Fault Refusal :=
  mapReg (setBit 2) .a s

/-- `set 3,b` (R293). -/
def exec_set_3_b (s : State) : Host.Outcome State Fault Refusal :=
  mapReg (setBit 3) .b s

/-- `set 3,c` (R293). -/
def exec_set_3_c (s : State) : Host.Outcome State Fault Refusal :=
  mapReg (setBit 3) .c s

/-- `set 3,d` (R293). -/
def exec_set_3_d (s : State) : Host.Outcome State Fault Refusal :=
  mapReg (setBit 3) .d s

/-- `set 3,e` (R293). -/
def exec_set_3_e (s : State) : Host.Outcome State Fault Refusal :=
  mapReg (setBit 3) .e s

/-- `set 3,h` (R293). -/
def exec_set_3_h (s : State) : Host.Outcome State Fault Refusal :=
  mapReg (setBit 3) .h s

/-- `set 3,l` (R293). -/
def exec_set_3_l (s : State) : Host.Outcome State Fault Refusal :=
  mapReg (setBit 3) .l s

/-- `set 3,(hl)` (R294). -/
def exec_set_3_mhl (s : State) : Host.Outcome State Fault Refusal :=
  mapMem 2 (setBit 3) .hl none s

/-- `set 3,a` (R293). -/
def exec_set_3_a (s : State) : Host.Outcome State Fault Refusal :=
  mapReg (setBit 3) .a s

/-- `set 4,b` (R293). -/
def exec_set_4_b (s : State) : Host.Outcome State Fault Refusal :=
  mapReg (setBit 4) .b s

/-- `set 4,c` (R293). -/
def exec_set_4_c (s : State) : Host.Outcome State Fault Refusal :=
  mapReg (setBit 4) .c s

/-- `set 4,d` (R293). -/
def exec_set_4_d (s : State) : Host.Outcome State Fault Refusal :=
  mapReg (setBit 4) .d s

/-- `set 4,e` (R293). -/
def exec_set_4_e (s : State) : Host.Outcome State Fault Refusal :=
  mapReg (setBit 4) .e s

/-- `set 4,h` (R293). -/
def exec_set_4_h (s : State) : Host.Outcome State Fault Refusal :=
  mapReg (setBit 4) .h s

/-- `set 4,l` (R293). -/
def exec_set_4_l (s : State) : Host.Outcome State Fault Refusal :=
  mapReg (setBit 4) .l s

/-- `set 4,(hl)` (R294). -/
def exec_set_4_mhl (s : State) : Host.Outcome State Fault Refusal :=
  mapMem 2 (setBit 4) .hl none s

/-- `set 4,a` (R293). -/
def exec_set_4_a (s : State) : Host.Outcome State Fault Refusal :=
  mapReg (setBit 4) .a s

/-- `set 5,b` (R293). -/
def exec_set_5_b (s : State) : Host.Outcome State Fault Refusal :=
  mapReg (setBit 5) .b s

/-- `set 5,c` (R293). -/
def exec_set_5_c (s : State) : Host.Outcome State Fault Refusal :=
  mapReg (setBit 5) .c s

/-- `set 5,d` (R293). -/
def exec_set_5_d (s : State) : Host.Outcome State Fault Refusal :=
  mapReg (setBit 5) .d s

/-- `set 5,e` (R293). -/
def exec_set_5_e (s : State) : Host.Outcome State Fault Refusal :=
  mapReg (setBit 5) .e s

/-- `set 5,h` (R293). -/
def exec_set_5_h (s : State) : Host.Outcome State Fault Refusal :=
  mapReg (setBit 5) .h s

/-- `set 5,l` (R293). -/
def exec_set_5_l (s : State) : Host.Outcome State Fault Refusal :=
  mapReg (setBit 5) .l s

/-- `set 5,(hl)` (R294). -/
def exec_set_5_mhl (s : State) : Host.Outcome State Fault Refusal :=
  mapMem 2 (setBit 5) .hl none s

/-- `set 5,a` (R293). -/
def exec_set_5_a (s : State) : Host.Outcome State Fault Refusal :=
  mapReg (setBit 5) .a s

/-- `set 6,b` (R293). -/
def exec_set_6_b (s : State) : Host.Outcome State Fault Refusal :=
  mapReg (setBit 6) .b s

/-- `set 6,c` (R293). -/
def exec_set_6_c (s : State) : Host.Outcome State Fault Refusal :=
  mapReg (setBit 6) .c s

/-- `set 6,d` (R293). -/
def exec_set_6_d (s : State) : Host.Outcome State Fault Refusal :=
  mapReg (setBit 6) .d s

/-- `set 6,e` (R293). -/
def exec_set_6_e (s : State) : Host.Outcome State Fault Refusal :=
  mapReg (setBit 6) .e s

/-- `set 6,h` (R293). -/
def exec_set_6_h (s : State) : Host.Outcome State Fault Refusal :=
  mapReg (setBit 6) .h s

/-- `set 6,l` (R293). -/
def exec_set_6_l (s : State) : Host.Outcome State Fault Refusal :=
  mapReg (setBit 6) .l s

/-- `set 6,(hl)` (R294). -/
def exec_set_6_mhl (s : State) : Host.Outcome State Fault Refusal :=
  mapMem 2 (setBit 6) .hl none s

/-- `set 6,a` (R293). -/
def exec_set_6_a (s : State) : Host.Outcome State Fault Refusal :=
  mapReg (setBit 6) .a s

/-- `set 7,b` (R293). -/
def exec_set_7_b (s : State) : Host.Outcome State Fault Refusal :=
  mapReg (setBit 7) .b s

/-- `set 7,c` (R293). -/
def exec_set_7_c (s : State) : Host.Outcome State Fault Refusal :=
  mapReg (setBit 7) .c s

/-- `set 7,d` (R293). -/
def exec_set_7_d (s : State) : Host.Outcome State Fault Refusal :=
  mapReg (setBit 7) .d s

/-- `set 7,e` (R293). -/
def exec_set_7_e (s : State) : Host.Outcome State Fault Refusal :=
  mapReg (setBit 7) .e s

/-- `set 7,h` (R293). -/
def exec_set_7_h (s : State) : Host.Outcome State Fault Refusal :=
  mapReg (setBit 7) .h s

/-- `set 7,l` (R293). -/
def exec_set_7_l (s : State) : Host.Outcome State Fault Refusal :=
  mapReg (setBit 7) .l s

/-- `set 7,(hl)` (R294). -/
def exec_set_7_mhl (s : State) : Host.Outcome State Fault Refusal :=
  mapMem 2 (setBit 7) .hl none s

/-- `set 7,a` (R293). -/
def exec_set_7_a (s : State) : Host.Outcome State Fault Refusal :=
  mapReg (setBit 7) .a s

/-- `bit 0,(ix+*)` (R292). -/
def exec_bit_0_mixd (d : Byte) (s : State) : Host.Outcome State Fault Refusal :=
  bitIdx 0 .ix d s

/-- `bit 1,(ix+*)` (R292). -/
def exec_bit_1_mixd (d : Byte) (s : State) : Host.Outcome State Fault Refusal :=
  bitIdx 1 .ix d s

/-- `bit 2,(ix+*)` (R292). -/
def exec_bit_2_mixd (d : Byte) (s : State) : Host.Outcome State Fault Refusal :=
  bitIdx 2 .ix d s

/-- `bit 3,(ix+*)` (R292). -/
def exec_bit_3_mixd (d : Byte) (s : State) : Host.Outcome State Fault Refusal :=
  bitIdx 3 .ix d s

/-- `bit 4,(ix+*)` (R292). -/
def exec_bit_4_mixd (d : Byte) (s : State) : Host.Outcome State Fault Refusal :=
  bitIdx 4 .ix d s

/-- `bit 5,(ix+*)` (R292). -/
def exec_bit_5_mixd (d : Byte) (s : State) : Host.Outcome State Fault Refusal :=
  bitIdx 5 .ix d s

/-- `bit 6,(ix+*)` (R292). -/
def exec_bit_6_mixd (d : Byte) (s : State) : Host.Outcome State Fault Refusal :=
  bitIdx 6 .ix d s

/-- `bit 7,(ix+*)` (R292). -/
def exec_bit_7_mixd (d : Byte) (s : State) : Host.Outcome State Fault Refusal :=
  bitIdx 7 .ix d s

/-- `res 0,(ix+*),b` (R298). -/
def exec_res_0_mixd_b (d : Byte) (s : State) : Host.Outcome State Fault Refusal :=
  mapMem 4 (resBit 0) (.idx .ix d) (some .b) s

/-- `res 0,(ix+*),c` (R298). -/
def exec_res_0_mixd_c (d : Byte) (s : State) : Host.Outcome State Fault Refusal :=
  mapMem 4 (resBit 0) (.idx .ix d) (some .c) s

/-- `res 0,(ix+*),d` (R298). -/
def exec_res_0_mixd_d (d : Byte) (s : State) : Host.Outcome State Fault Refusal :=
  mapMem 4 (resBit 0) (.idx .ix d) (some .d) s

/-- `res 0,(ix+*),e` (R298). -/
def exec_res_0_mixd_e (d : Byte) (s : State) : Host.Outcome State Fault Refusal :=
  mapMem 4 (resBit 0) (.idx .ix d) (some .e) s

/-- `res 0,(ix+*),h` (R298). -/
def exec_res_0_mixd_h (d : Byte) (s : State) : Host.Outcome State Fault Refusal :=
  mapMem 4 (resBit 0) (.idx .ix d) (some .h) s

/-- `res 0,(ix+*),l` (R298). -/
def exec_res_0_mixd_l (d : Byte) (s : State) : Host.Outcome State Fault Refusal :=
  mapMem 4 (resBit 0) (.idx .ix d) (some .l) s

/-- `res 0,(ix+*)` (R298). -/
def exec_res_0_mixd (d : Byte) (s : State) : Host.Outcome State Fault Refusal :=
  mapMem 4 (resBit 0) (.idx .ix d) none s

/-- `res 0,(ix+*),a` (R298). -/
def exec_res_0_mixd_a (d : Byte) (s : State) : Host.Outcome State Fault Refusal :=
  mapMem 4 (resBit 0) (.idx .ix d) (some .a) s

/-- `res 1,(ix+*),b` (R298). -/
def exec_res_1_mixd_b (d : Byte) (s : State) : Host.Outcome State Fault Refusal :=
  mapMem 4 (resBit 1) (.idx .ix d) (some .b) s

/-- `res 1,(ix+*),c` (R298). -/
def exec_res_1_mixd_c (d : Byte) (s : State) : Host.Outcome State Fault Refusal :=
  mapMem 4 (resBit 1) (.idx .ix d) (some .c) s

/-- `res 1,(ix+*),d` (R298). -/
def exec_res_1_mixd_d (d : Byte) (s : State) : Host.Outcome State Fault Refusal :=
  mapMem 4 (resBit 1) (.idx .ix d) (some .d) s

/-- `res 1,(ix+*),e` (R298). -/
def exec_res_1_mixd_e (d : Byte) (s : State) : Host.Outcome State Fault Refusal :=
  mapMem 4 (resBit 1) (.idx .ix d) (some .e) s

/-- `res 1,(ix+*),h` (R298). -/
def exec_res_1_mixd_h (d : Byte) (s : State) : Host.Outcome State Fault Refusal :=
  mapMem 4 (resBit 1) (.idx .ix d) (some .h) s

/-- `res 1,(ix+*),l` (R298). -/
def exec_res_1_mixd_l (d : Byte) (s : State) : Host.Outcome State Fault Refusal :=
  mapMem 4 (resBit 1) (.idx .ix d) (some .l) s

/-- `res 1,(ix+*)` (R298). -/
def exec_res_1_mixd (d : Byte) (s : State) : Host.Outcome State Fault Refusal :=
  mapMem 4 (resBit 1) (.idx .ix d) none s

/-- `res 1,(ix+*),a` (R298). -/
def exec_res_1_mixd_a (d : Byte) (s : State) : Host.Outcome State Fault Refusal :=
  mapMem 4 (resBit 1) (.idx .ix d) (some .a) s

/-- `res 2,(ix+*),b` (R298). -/
def exec_res_2_mixd_b (d : Byte) (s : State) : Host.Outcome State Fault Refusal :=
  mapMem 4 (resBit 2) (.idx .ix d) (some .b) s

/-- `res 2,(ix+*),c` (R298). -/
def exec_res_2_mixd_c (d : Byte) (s : State) : Host.Outcome State Fault Refusal :=
  mapMem 4 (resBit 2) (.idx .ix d) (some .c) s

/-- `res 2,(ix+*),d` (R298). -/
def exec_res_2_mixd_d (d : Byte) (s : State) : Host.Outcome State Fault Refusal :=
  mapMem 4 (resBit 2) (.idx .ix d) (some .d) s

/-- `res 2,(ix+*),e` (R298). -/
def exec_res_2_mixd_e (d : Byte) (s : State) : Host.Outcome State Fault Refusal :=
  mapMem 4 (resBit 2) (.idx .ix d) (some .e) s

/-- `res 2,(ix+*),h` (R298). -/
def exec_res_2_mixd_h (d : Byte) (s : State) : Host.Outcome State Fault Refusal :=
  mapMem 4 (resBit 2) (.idx .ix d) (some .h) s

/-- `res 2,(ix+*),l` (R298). -/
def exec_res_2_mixd_l (d : Byte) (s : State) : Host.Outcome State Fault Refusal :=
  mapMem 4 (resBit 2) (.idx .ix d) (some .l) s

/-- `res 2,(ix+*)` (R298). -/
def exec_res_2_mixd (d : Byte) (s : State) : Host.Outcome State Fault Refusal :=
  mapMem 4 (resBit 2) (.idx .ix d) none s

/-- `res 2,(ix+*),a` (R298). -/
def exec_res_2_mixd_a (d : Byte) (s : State) : Host.Outcome State Fault Refusal :=
  mapMem 4 (resBit 2) (.idx .ix d) (some .a) s

/-- `res 3,(ix+*),b` (R298). -/
def exec_res_3_mixd_b (d : Byte) (s : State) : Host.Outcome State Fault Refusal :=
  mapMem 4 (resBit 3) (.idx .ix d) (some .b) s

/-- `res 3,(ix+*),c` (R298). -/
def exec_res_3_mixd_c (d : Byte) (s : State) : Host.Outcome State Fault Refusal :=
  mapMem 4 (resBit 3) (.idx .ix d) (some .c) s

/-- `res 3,(ix+*),d` (R298). -/
def exec_res_3_mixd_d (d : Byte) (s : State) : Host.Outcome State Fault Refusal :=
  mapMem 4 (resBit 3) (.idx .ix d) (some .d) s

/-- `res 3,(ix+*),e` (R298). -/
def exec_res_3_mixd_e (d : Byte) (s : State) : Host.Outcome State Fault Refusal :=
  mapMem 4 (resBit 3) (.idx .ix d) (some .e) s

/-- `res 3,(ix+*),h` (R298). -/
def exec_res_3_mixd_h (d : Byte) (s : State) : Host.Outcome State Fault Refusal :=
  mapMem 4 (resBit 3) (.idx .ix d) (some .h) s

/-- `res 3,(ix+*),l` (R298). -/
def exec_res_3_mixd_l (d : Byte) (s : State) : Host.Outcome State Fault Refusal :=
  mapMem 4 (resBit 3) (.idx .ix d) (some .l) s

/-- `res 3,(ix+*)` (R298). -/
def exec_res_3_mixd (d : Byte) (s : State) : Host.Outcome State Fault Refusal :=
  mapMem 4 (resBit 3) (.idx .ix d) none s

/-- `res 3,(ix+*),a` (R298). -/
def exec_res_3_mixd_a (d : Byte) (s : State) : Host.Outcome State Fault Refusal :=
  mapMem 4 (resBit 3) (.idx .ix d) (some .a) s

/-- `res 4,(ix+*),b` (R298). -/
def exec_res_4_mixd_b (d : Byte) (s : State) : Host.Outcome State Fault Refusal :=
  mapMem 4 (resBit 4) (.idx .ix d) (some .b) s

/-- `res 4,(ix+*),c` (R298). -/
def exec_res_4_mixd_c (d : Byte) (s : State) : Host.Outcome State Fault Refusal :=
  mapMem 4 (resBit 4) (.idx .ix d) (some .c) s

/-- `res 4,(ix+*),d` (R298). -/
def exec_res_4_mixd_d (d : Byte) (s : State) : Host.Outcome State Fault Refusal :=
  mapMem 4 (resBit 4) (.idx .ix d) (some .d) s

/-- `res 4,(ix+*),e` (R298). -/
def exec_res_4_mixd_e (d : Byte) (s : State) : Host.Outcome State Fault Refusal :=
  mapMem 4 (resBit 4) (.idx .ix d) (some .e) s

/-- `res 4,(ix+*),h` (R298). -/
def exec_res_4_mixd_h (d : Byte) (s : State) : Host.Outcome State Fault Refusal :=
  mapMem 4 (resBit 4) (.idx .ix d) (some .h) s

/-- `res 4,(ix+*),l` (R298). -/
def exec_res_4_mixd_l (d : Byte) (s : State) : Host.Outcome State Fault Refusal :=
  mapMem 4 (resBit 4) (.idx .ix d) (some .l) s

/-- `res 4,(ix+*)` (R298). -/
def exec_res_4_mixd (d : Byte) (s : State) : Host.Outcome State Fault Refusal :=
  mapMem 4 (resBit 4) (.idx .ix d) none s

/-- `res 4,(ix+*),a` (R298). -/
def exec_res_4_mixd_a (d : Byte) (s : State) : Host.Outcome State Fault Refusal :=
  mapMem 4 (resBit 4) (.idx .ix d) (some .a) s

/-- `res 5,(ix+*),b` (R298). -/
def exec_res_5_mixd_b (d : Byte) (s : State) : Host.Outcome State Fault Refusal :=
  mapMem 4 (resBit 5) (.idx .ix d) (some .b) s

/-- `res 5,(ix+*),c` (R298). -/
def exec_res_5_mixd_c (d : Byte) (s : State) : Host.Outcome State Fault Refusal :=
  mapMem 4 (resBit 5) (.idx .ix d) (some .c) s

/-- `res 5,(ix+*),d` (R298). -/
def exec_res_5_mixd_d (d : Byte) (s : State) : Host.Outcome State Fault Refusal :=
  mapMem 4 (resBit 5) (.idx .ix d) (some .d) s

/-- `res 5,(ix+*),e` (R298). -/
def exec_res_5_mixd_e (d : Byte) (s : State) : Host.Outcome State Fault Refusal :=
  mapMem 4 (resBit 5) (.idx .ix d) (some .e) s

/-- `res 5,(ix+*),h` (R298). -/
def exec_res_5_mixd_h (d : Byte) (s : State) : Host.Outcome State Fault Refusal :=
  mapMem 4 (resBit 5) (.idx .ix d) (some .h) s

/-- `res 5,(ix+*),l` (R298). -/
def exec_res_5_mixd_l (d : Byte) (s : State) : Host.Outcome State Fault Refusal :=
  mapMem 4 (resBit 5) (.idx .ix d) (some .l) s

/-- `res 5,(ix+*)` (R298). -/
def exec_res_5_mixd (d : Byte) (s : State) : Host.Outcome State Fault Refusal :=
  mapMem 4 (resBit 5) (.idx .ix d) none s

/-- `res 5,(ix+*),a` (R298). -/
def exec_res_5_mixd_a (d : Byte) (s : State) : Host.Outcome State Fault Refusal :=
  mapMem 4 (resBit 5) (.idx .ix d) (some .a) s

/-- `res 6,(ix+*),b` (R298). -/
def exec_res_6_mixd_b (d : Byte) (s : State) : Host.Outcome State Fault Refusal :=
  mapMem 4 (resBit 6) (.idx .ix d) (some .b) s

/-- `res 6,(ix+*),c` (R298). -/
def exec_res_6_mixd_c (d : Byte) (s : State) : Host.Outcome State Fault Refusal :=
  mapMem 4 (resBit 6) (.idx .ix d) (some .c) s

/-- `res 6,(ix+*),d` (R298). -/
def exec_res_6_mixd_d (d : Byte) (s : State) : Host.Outcome State Fault Refusal :=
  mapMem 4 (resBit 6) (.idx .ix d) (some .d) s

/-- `res 6,(ix+*),e` (R298). -/
def exec_res_6_mixd_e (d : Byte) (s : State) : Host.Outcome State Fault Refusal :=
  mapMem 4 (resBit 6) (.idx .ix d) (some .e) s

/-- `res 6,(ix+*),h` (R298). -/
def exec_res_6_mixd_h (d : Byte) (s : State) : Host.Outcome State Fault Refusal :=
  mapMem 4 (resBit 6) (.idx .ix d) (some .h) s

/-- `res 6,(ix+*),l` (R298). -/
def exec_res_6_mixd_l (d : Byte) (s : State) : Host.Outcome State Fault Refusal :=
  mapMem 4 (resBit 6) (.idx .ix d) (some .l) s

/-- `res 6,(ix+*)` (R298). -/
def exec_res_6_mixd (d : Byte) (s : State) : Host.Outcome State Fault Refusal :=
  mapMem 4 (resBit 6) (.idx .ix d) none s

/-- `res 6,(ix+*),a` (R298). -/
def exec_res_6_mixd_a (d : Byte) (s : State) : Host.Outcome State Fault Refusal :=
  mapMem 4 (resBit 6) (.idx .ix d) (some .a) s

/-- `res 7,(ix+*),b` (R298). -/
def exec_res_7_mixd_b (d : Byte) (s : State) : Host.Outcome State Fault Refusal :=
  mapMem 4 (resBit 7) (.idx .ix d) (some .b) s

/-- `res 7,(ix+*),c` (R298). -/
def exec_res_7_mixd_c (d : Byte) (s : State) : Host.Outcome State Fault Refusal :=
  mapMem 4 (resBit 7) (.idx .ix d) (some .c) s

/-- `res 7,(ix+*),d` (R298). -/
def exec_res_7_mixd_d (d : Byte) (s : State) : Host.Outcome State Fault Refusal :=
  mapMem 4 (resBit 7) (.idx .ix d) (some .d) s

/-- `res 7,(ix+*),e` (R298). -/
def exec_res_7_mixd_e (d : Byte) (s : State) : Host.Outcome State Fault Refusal :=
  mapMem 4 (resBit 7) (.idx .ix d) (some .e) s

/-- `res 7,(ix+*),h` (R298). -/
def exec_res_7_mixd_h (d : Byte) (s : State) : Host.Outcome State Fault Refusal :=
  mapMem 4 (resBit 7) (.idx .ix d) (some .h) s

/-- `res 7,(ix+*),l` (R298). -/
def exec_res_7_mixd_l (d : Byte) (s : State) : Host.Outcome State Fault Refusal :=
  mapMem 4 (resBit 7) (.idx .ix d) (some .l) s

/-- `res 7,(ix+*)` (R298). -/
def exec_res_7_mixd (d : Byte) (s : State) : Host.Outcome State Fault Refusal :=
  mapMem 4 (resBit 7) (.idx .ix d) none s

/-- `res 7,(ix+*),a` (R298). -/
def exec_res_7_mixd_a (d : Byte) (s : State) : Host.Outcome State Fault Refusal :=
  mapMem 4 (resBit 7) (.idx .ix d) (some .a) s

/-- `set 0,(ix+*),b` (R295). -/
def exec_set_0_mixd_b (d : Byte) (s : State) : Host.Outcome State Fault Refusal :=
  mapMem 4 (setBit 0) (.idx .ix d) (some .b) s

/-- `set 0,(ix+*),c` (R295). -/
def exec_set_0_mixd_c (d : Byte) (s : State) : Host.Outcome State Fault Refusal :=
  mapMem 4 (setBit 0) (.idx .ix d) (some .c) s

/-- `set 0,(ix+*),d` (R295). -/
def exec_set_0_mixd_d (d : Byte) (s : State) : Host.Outcome State Fault Refusal :=
  mapMem 4 (setBit 0) (.idx .ix d) (some .d) s

/-- `set 0,(ix+*),e` (R295). -/
def exec_set_0_mixd_e (d : Byte) (s : State) : Host.Outcome State Fault Refusal :=
  mapMem 4 (setBit 0) (.idx .ix d) (some .e) s

/-- `set 0,(ix+*),h` (R295). -/
def exec_set_0_mixd_h (d : Byte) (s : State) : Host.Outcome State Fault Refusal :=
  mapMem 4 (setBit 0) (.idx .ix d) (some .h) s

/-- `set 0,(ix+*),l` (R295). -/
def exec_set_0_mixd_l (d : Byte) (s : State) : Host.Outcome State Fault Refusal :=
  mapMem 4 (setBit 0) (.idx .ix d) (some .l) s

/-- `set 0,(ix+*)` (R295). -/
def exec_set_0_mixd (d : Byte) (s : State) : Host.Outcome State Fault Refusal :=
  mapMem 4 (setBit 0) (.idx .ix d) none s

/-- `set 0,(ix+*),a` (R295). -/
def exec_set_0_mixd_a (d : Byte) (s : State) : Host.Outcome State Fault Refusal :=
  mapMem 4 (setBit 0) (.idx .ix d) (some .a) s

/-- `set 1,(ix+*),b` (R295). -/
def exec_set_1_mixd_b (d : Byte) (s : State) : Host.Outcome State Fault Refusal :=
  mapMem 4 (setBit 1) (.idx .ix d) (some .b) s

/-- `set 1,(ix+*),c` (R295). -/
def exec_set_1_mixd_c (d : Byte) (s : State) : Host.Outcome State Fault Refusal :=
  mapMem 4 (setBit 1) (.idx .ix d) (some .c) s

/-- `set 1,(ix+*),d` (R295). -/
def exec_set_1_mixd_d (d : Byte) (s : State) : Host.Outcome State Fault Refusal :=
  mapMem 4 (setBit 1) (.idx .ix d) (some .d) s

/-- `set 1,(ix+*),e` (R295). -/
def exec_set_1_mixd_e (d : Byte) (s : State) : Host.Outcome State Fault Refusal :=
  mapMem 4 (setBit 1) (.idx .ix d) (some .e) s

/-- `set 1,(ix+*),h` (R295). -/
def exec_set_1_mixd_h (d : Byte) (s : State) : Host.Outcome State Fault Refusal :=
  mapMem 4 (setBit 1) (.idx .ix d) (some .h) s

/-- `set 1,(ix+*),l` (R295). -/
def exec_set_1_mixd_l (d : Byte) (s : State) : Host.Outcome State Fault Refusal :=
  mapMem 4 (setBit 1) (.idx .ix d) (some .l) s

/-- `set 1,(ix+*)` (R295). -/
def exec_set_1_mixd (d : Byte) (s : State) : Host.Outcome State Fault Refusal :=
  mapMem 4 (setBit 1) (.idx .ix d) none s

/-- `set 1,(ix+*),a` (R295). -/
def exec_set_1_mixd_a (d : Byte) (s : State) : Host.Outcome State Fault Refusal :=
  mapMem 4 (setBit 1) (.idx .ix d) (some .a) s

/-- `set 2,(ix+*),b` (R295). -/
def exec_set_2_mixd_b (d : Byte) (s : State) : Host.Outcome State Fault Refusal :=
  mapMem 4 (setBit 2) (.idx .ix d) (some .b) s

/-- `set 2,(ix+*),c` (R295). -/
def exec_set_2_mixd_c (d : Byte) (s : State) : Host.Outcome State Fault Refusal :=
  mapMem 4 (setBit 2) (.idx .ix d) (some .c) s

/-- `set 2,(ix+*),d` (R295). -/
def exec_set_2_mixd_d (d : Byte) (s : State) : Host.Outcome State Fault Refusal :=
  mapMem 4 (setBit 2) (.idx .ix d) (some .d) s

/-- `set 2,(ix+*),e` (R295). -/
def exec_set_2_mixd_e (d : Byte) (s : State) : Host.Outcome State Fault Refusal :=
  mapMem 4 (setBit 2) (.idx .ix d) (some .e) s

/-- `set 2,(ix+*),h` (R295). -/
def exec_set_2_mixd_h (d : Byte) (s : State) : Host.Outcome State Fault Refusal :=
  mapMem 4 (setBit 2) (.idx .ix d) (some .h) s

/-- `set 2,(ix+*),l` (R295). -/
def exec_set_2_mixd_l (d : Byte) (s : State) : Host.Outcome State Fault Refusal :=
  mapMem 4 (setBit 2) (.idx .ix d) (some .l) s

/-- `set 2,(ix+*)` (R295). -/
def exec_set_2_mixd (d : Byte) (s : State) : Host.Outcome State Fault Refusal :=
  mapMem 4 (setBit 2) (.idx .ix d) none s

/-- `set 2,(ix+*),a` (R295). -/
def exec_set_2_mixd_a (d : Byte) (s : State) : Host.Outcome State Fault Refusal :=
  mapMem 4 (setBit 2) (.idx .ix d) (some .a) s

/-- `set 3,(ix+*),b` (R295). -/
def exec_set_3_mixd_b (d : Byte) (s : State) : Host.Outcome State Fault Refusal :=
  mapMem 4 (setBit 3) (.idx .ix d) (some .b) s

/-- `set 3,(ix+*),c` (R295). -/
def exec_set_3_mixd_c (d : Byte) (s : State) : Host.Outcome State Fault Refusal :=
  mapMem 4 (setBit 3) (.idx .ix d) (some .c) s

/-- `set 3,(ix+*),d` (R295). -/
def exec_set_3_mixd_d (d : Byte) (s : State) : Host.Outcome State Fault Refusal :=
  mapMem 4 (setBit 3) (.idx .ix d) (some .d) s

/-- `set 3,(ix+*),e` (R295). -/
def exec_set_3_mixd_e (d : Byte) (s : State) : Host.Outcome State Fault Refusal :=
  mapMem 4 (setBit 3) (.idx .ix d) (some .e) s

/-- `set 3,(ix+*),h` (R295). -/
def exec_set_3_mixd_h (d : Byte) (s : State) : Host.Outcome State Fault Refusal :=
  mapMem 4 (setBit 3) (.idx .ix d) (some .h) s

/-- `set 3,(ix+*),l` (R295). -/
def exec_set_3_mixd_l (d : Byte) (s : State) : Host.Outcome State Fault Refusal :=
  mapMem 4 (setBit 3) (.idx .ix d) (some .l) s

/-- `set 3,(ix+*)` (R295). -/
def exec_set_3_mixd (d : Byte) (s : State) : Host.Outcome State Fault Refusal :=
  mapMem 4 (setBit 3) (.idx .ix d) none s

/-- `set 3,(ix+*),a` (R295). -/
def exec_set_3_mixd_a (d : Byte) (s : State) : Host.Outcome State Fault Refusal :=
  mapMem 4 (setBit 3) (.idx .ix d) (some .a) s

/-- `set 4,(ix+*),b` (R295). -/
def exec_set_4_mixd_b (d : Byte) (s : State) : Host.Outcome State Fault Refusal :=
  mapMem 4 (setBit 4) (.idx .ix d) (some .b) s

/-- `set 4,(ix+*),c` (R295). -/
def exec_set_4_mixd_c (d : Byte) (s : State) : Host.Outcome State Fault Refusal :=
  mapMem 4 (setBit 4) (.idx .ix d) (some .c) s

/-- `set 4,(ix+*),d` (R295). -/
def exec_set_4_mixd_d (d : Byte) (s : State) : Host.Outcome State Fault Refusal :=
  mapMem 4 (setBit 4) (.idx .ix d) (some .d) s

/-- `set 4,(ix+*),e` (R295). -/
def exec_set_4_mixd_e (d : Byte) (s : State) : Host.Outcome State Fault Refusal :=
  mapMem 4 (setBit 4) (.idx .ix d) (some .e) s

/-- `set 4,(ix+*),h` (R295). -/
def exec_set_4_mixd_h (d : Byte) (s : State) : Host.Outcome State Fault Refusal :=
  mapMem 4 (setBit 4) (.idx .ix d) (some .h) s

/-- `set 4,(ix+*),l` (R295). -/
def exec_set_4_mixd_l (d : Byte) (s : State) : Host.Outcome State Fault Refusal :=
  mapMem 4 (setBit 4) (.idx .ix d) (some .l) s

/-- `set 4,(ix+*)` (R295). -/
def exec_set_4_mixd (d : Byte) (s : State) : Host.Outcome State Fault Refusal :=
  mapMem 4 (setBit 4) (.idx .ix d) none s

/-- `set 4,(ix+*),a` (R295). -/
def exec_set_4_mixd_a (d : Byte) (s : State) : Host.Outcome State Fault Refusal :=
  mapMem 4 (setBit 4) (.idx .ix d) (some .a) s

/-- `set 5,(ix+*),b` (R295). -/
def exec_set_5_mixd_b (d : Byte) (s : State) : Host.Outcome State Fault Refusal :=
  mapMem 4 (setBit 5) (.idx .ix d) (some .b) s

/-- `set 5,(ix+*),c` (R295). -/
def exec_set_5_mixd_c (d : Byte) (s : State) : Host.Outcome State Fault Refusal :=
  mapMem 4 (setBit 5) (.idx .ix d) (some .c) s

/-- `set 5,(ix+*),d` (R295). -/
def exec_set_5_mixd_d (d : Byte) (s : State) : Host.Outcome State Fault Refusal :=
  mapMem 4 (setBit 5) (.idx .ix d) (some .d) s

/-- `set 5,(ix+*),e` (R295). -/
def exec_set_5_mixd_e (d : Byte) (s : State) : Host.Outcome State Fault Refusal :=
  mapMem 4 (setBit 5) (.idx .ix d) (some .e) s

/-- `set 5,(ix+*),h` (R295). -/
def exec_set_5_mixd_h (d : Byte) (s : State) : Host.Outcome State Fault Refusal :=
  mapMem 4 (setBit 5) (.idx .ix d) (some .h) s

/-- `set 5,(ix+*),l` (R295). -/
def exec_set_5_mixd_l (d : Byte) (s : State) : Host.Outcome State Fault Refusal :=
  mapMem 4 (setBit 5) (.idx .ix d) (some .l) s

/-- `set 5,(ix+*)` (R295). -/
def exec_set_5_mixd (d : Byte) (s : State) : Host.Outcome State Fault Refusal :=
  mapMem 4 (setBit 5) (.idx .ix d) none s

/-- `set 5,(ix+*),a` (R295). -/
def exec_set_5_mixd_a (d : Byte) (s : State) : Host.Outcome State Fault Refusal :=
  mapMem 4 (setBit 5) (.idx .ix d) (some .a) s

/-- `set 6,(ix+*),b` (R295). -/
def exec_set_6_mixd_b (d : Byte) (s : State) : Host.Outcome State Fault Refusal :=
  mapMem 4 (setBit 6) (.idx .ix d) (some .b) s

/-- `set 6,(ix+*),c` (R295). -/
def exec_set_6_mixd_c (d : Byte) (s : State) : Host.Outcome State Fault Refusal :=
  mapMem 4 (setBit 6) (.idx .ix d) (some .c) s

/-- `set 6,(ix+*),d` (R295). -/
def exec_set_6_mixd_d (d : Byte) (s : State) : Host.Outcome State Fault Refusal :=
  mapMem 4 (setBit 6) (.idx .ix d) (some .d) s

/-- `set 6,(ix+*),e` (R295). -/
def exec_set_6_mixd_e (d : Byte) (s : State) : Host.Outcome State Fault Refusal :=
  mapMem 4 (setBit 6) (.idx .ix d) (some .e) s

/-- `set 6,(ix+*),h` (R295). -/
def exec_set_6_mixd_h (d : Byte) (s : State) : Host.Outcome State Fault Refusal :=
  mapMem 4 (setBit 6) (.idx .ix d) (some .h) s

/-- `set 6,(ix+*),l` (R295). -/
def exec_set_6_mixd_l (d : Byte) (s : State) : Host.Outcome State Fault Refusal :=
  mapMem 4 (setBit 6) (.idx .ix d) (some .l) s

/-- `set 6,(ix+*)` (R295). -/
def exec_set_6_mixd (d : Byte) (s : State) : Host.Outcome State Fault Refusal :=
  mapMem 4 (setBit 6) (.idx .ix d) none s

/-- `set 6,(ix+*),a` (R295). -/
def exec_set_6_mixd_a (d : Byte) (s : State) : Host.Outcome State Fault Refusal :=
  mapMem 4 (setBit 6) (.idx .ix d) (some .a) s

/-- `set 7,(ix+*),b` (R295). -/
def exec_set_7_mixd_b (d : Byte) (s : State) : Host.Outcome State Fault Refusal :=
  mapMem 4 (setBit 7) (.idx .ix d) (some .b) s

/-- `set 7,(ix+*),c` (R295). -/
def exec_set_7_mixd_c (d : Byte) (s : State) : Host.Outcome State Fault Refusal :=
  mapMem 4 (setBit 7) (.idx .ix d) (some .c) s

/-- `set 7,(ix+*),d` (R295). -/
def exec_set_7_mixd_d (d : Byte) (s : State) : Host.Outcome State Fault Refusal :=
  mapMem 4 (setBit 7) (.idx .ix d) (some .d) s

/-- `set 7,(ix+*),e` (R295). -/
def exec_set_7_mixd_e (d : Byte) (s : State) : Host.Outcome State Fault Refusal :=
  mapMem 4 (setBit 7) (.idx .ix d) (some .e) s

/-- `set 7,(ix+*),h` (R295). -/
def exec_set_7_mixd_h (d : Byte) (s : State) : Host.Outcome State Fault Refusal :=
  mapMem 4 (setBit 7) (.idx .ix d) (some .h) s

/-- `set 7,(ix+*),l` (R295). -/
def exec_set_7_mixd_l (d : Byte) (s : State) : Host.Outcome State Fault Refusal :=
  mapMem 4 (setBit 7) (.idx .ix d) (some .l) s

/-- `set 7,(ix+*)` (R295). -/
def exec_set_7_mixd (d : Byte) (s : State) : Host.Outcome State Fault Refusal :=
  mapMem 4 (setBit 7) (.idx .ix d) none s

/-- `set 7,(ix+*),a` (R295). -/
def exec_set_7_mixd_a (d : Byte) (s : State) : Host.Outcome State Fault Refusal :=
  mapMem 4 (setBit 7) (.idx .ix d) (some .a) s

/-- `bit 0,(iy+*)` (R292). -/
def exec_bit_0_miyd (d : Byte) (s : State) : Host.Outcome State Fault Refusal :=
  bitIdx 0 .iy d s

/-- `bit 1,(iy+*)` (R292). -/
def exec_bit_1_miyd (d : Byte) (s : State) : Host.Outcome State Fault Refusal :=
  bitIdx 1 .iy d s

/-- `bit 2,(iy+*)` (R292). -/
def exec_bit_2_miyd (d : Byte) (s : State) : Host.Outcome State Fault Refusal :=
  bitIdx 2 .iy d s

/-- `bit 3,(iy+*)` (R292). -/
def exec_bit_3_miyd (d : Byte) (s : State) : Host.Outcome State Fault Refusal :=
  bitIdx 3 .iy d s

/-- `bit 4,(iy+*)` (R292). -/
def exec_bit_4_miyd (d : Byte) (s : State) : Host.Outcome State Fault Refusal :=
  bitIdx 4 .iy d s

/-- `bit 5,(iy+*)` (R292). -/
def exec_bit_5_miyd (d : Byte) (s : State) : Host.Outcome State Fault Refusal :=
  bitIdx 5 .iy d s

/-- `bit 6,(iy+*)` (R292). -/
def exec_bit_6_miyd (d : Byte) (s : State) : Host.Outcome State Fault Refusal :=
  bitIdx 6 .iy d s

/-- `bit 7,(iy+*)` (R292). -/
def exec_bit_7_miyd (d : Byte) (s : State) : Host.Outcome State Fault Refusal :=
  bitIdx 7 .iy d s

/-- `res 0,(iy+*),b` (R298). -/
def exec_res_0_miyd_b (d : Byte) (s : State) : Host.Outcome State Fault Refusal :=
  mapMem 4 (resBit 0) (.idx .iy d) (some .b) s

/-- `res 0,(iy+*),c` (R298). -/
def exec_res_0_miyd_c (d : Byte) (s : State) : Host.Outcome State Fault Refusal :=
  mapMem 4 (resBit 0) (.idx .iy d) (some .c) s

/-- `res 0,(iy+*),d` (R298). -/
def exec_res_0_miyd_d (d : Byte) (s : State) : Host.Outcome State Fault Refusal :=
  mapMem 4 (resBit 0) (.idx .iy d) (some .d) s

/-- `res 0,(iy+*),e` (R298). -/
def exec_res_0_miyd_e (d : Byte) (s : State) : Host.Outcome State Fault Refusal :=
  mapMem 4 (resBit 0) (.idx .iy d) (some .e) s

/-- `res 0,(iy+*),h` (R298). -/
def exec_res_0_miyd_h (d : Byte) (s : State) : Host.Outcome State Fault Refusal :=
  mapMem 4 (resBit 0) (.idx .iy d) (some .h) s

/-- `res 0,(iy+*),l` (R298). -/
def exec_res_0_miyd_l (d : Byte) (s : State) : Host.Outcome State Fault Refusal :=
  mapMem 4 (resBit 0) (.idx .iy d) (some .l) s

/-- `res 0,(iy+*)` (R298). -/
def exec_res_0_miyd (d : Byte) (s : State) : Host.Outcome State Fault Refusal :=
  mapMem 4 (resBit 0) (.idx .iy d) none s

/-- `res 0,(iy+*),a` (R298). -/
def exec_res_0_miyd_a (d : Byte) (s : State) : Host.Outcome State Fault Refusal :=
  mapMem 4 (resBit 0) (.idx .iy d) (some .a) s

/-- `res 1,(iy+*),b` (R298). -/
def exec_res_1_miyd_b (d : Byte) (s : State) : Host.Outcome State Fault Refusal :=
  mapMem 4 (resBit 1) (.idx .iy d) (some .b) s

/-- `res 1,(iy+*),c` (R298). -/
def exec_res_1_miyd_c (d : Byte) (s : State) : Host.Outcome State Fault Refusal :=
  mapMem 4 (resBit 1) (.idx .iy d) (some .c) s

/-- `res 1,(iy+*),d` (R298). -/
def exec_res_1_miyd_d (d : Byte) (s : State) : Host.Outcome State Fault Refusal :=
  mapMem 4 (resBit 1) (.idx .iy d) (some .d) s

/-- `res 1,(iy+*),e` (R298). -/
def exec_res_1_miyd_e (d : Byte) (s : State) : Host.Outcome State Fault Refusal :=
  mapMem 4 (resBit 1) (.idx .iy d) (some .e) s

/-- `res 1,(iy+*),h` (R298). -/
def exec_res_1_miyd_h (d : Byte) (s : State) : Host.Outcome State Fault Refusal :=
  mapMem 4 (resBit 1) (.idx .iy d) (some .h) s

/-- `res 1,(iy+*),l` (R298). -/
def exec_res_1_miyd_l (d : Byte) (s : State) : Host.Outcome State Fault Refusal :=
  mapMem 4 (resBit 1) (.idx .iy d) (some .l) s

/-- `res 1,(iy+*)` (R298). -/
def exec_res_1_miyd (d : Byte) (s : State) : Host.Outcome State Fault Refusal :=
  mapMem 4 (resBit 1) (.idx .iy d) none s

/-- `res 1,(iy+*),a` (R298). -/
def exec_res_1_miyd_a (d : Byte) (s : State) : Host.Outcome State Fault Refusal :=
  mapMem 4 (resBit 1) (.idx .iy d) (some .a) s

/-- `res 2,(iy+*),b` (R298). -/
def exec_res_2_miyd_b (d : Byte) (s : State) : Host.Outcome State Fault Refusal :=
  mapMem 4 (resBit 2) (.idx .iy d) (some .b) s

/-- `res 2,(iy+*),c` (R298). -/
def exec_res_2_miyd_c (d : Byte) (s : State) : Host.Outcome State Fault Refusal :=
  mapMem 4 (resBit 2) (.idx .iy d) (some .c) s

/-- `res 2,(iy+*),d` (R298). -/
def exec_res_2_miyd_d (d : Byte) (s : State) : Host.Outcome State Fault Refusal :=
  mapMem 4 (resBit 2) (.idx .iy d) (some .d) s

/-- `res 2,(iy+*),e` (R298). -/
def exec_res_2_miyd_e (d : Byte) (s : State) : Host.Outcome State Fault Refusal :=
  mapMem 4 (resBit 2) (.idx .iy d) (some .e) s

/-- `res 2,(iy+*),h` (R298). -/
def exec_res_2_miyd_h (d : Byte) (s : State) : Host.Outcome State Fault Refusal :=
  mapMem 4 (resBit 2) (.idx .iy d) (some .h) s

/-- `res 2,(iy+*),l` (R298). -/
def exec_res_2_miyd_l (d : Byte) (s : State) : Host.Outcome State Fault Refusal :=
  mapMem 4 (resBit 2) (.idx .iy d) (some .l) s

/-- `res 2,(iy+*)` (R298). -/
def exec_res_2_miyd (d : Byte) (s : State) : Host.Outcome State Fault Refusal :=
  mapMem 4 (resBit 2) (.idx .iy d) none s

/-- `res 2,(iy+*),a` (R298). -/
def exec_res_2_miyd_a (d : Byte) (s : State) : Host.Outcome State Fault Refusal :=
  mapMem 4 (resBit 2) (.idx .iy d) (some .a) s

/-- `res 3,(iy+*),b` (R298). -/
def exec_res_3_miyd_b (d : Byte) (s : State) : Host.Outcome State Fault Refusal :=
  mapMem 4 (resBit 3) (.idx .iy d) (some .b) s

/-- `res 3,(iy+*),c` (R298). -/
def exec_res_3_miyd_c (d : Byte) (s : State) : Host.Outcome State Fault Refusal :=
  mapMem 4 (resBit 3) (.idx .iy d) (some .c) s

/-- `res 3,(iy+*),d` (R298). -/
def exec_res_3_miyd_d (d : Byte) (s : State) : Host.Outcome State Fault Refusal :=
  mapMem 4 (resBit 3) (.idx .iy d) (some .d) s

/-- `res 3,(iy+*),e` (R298). -/
def exec_res_3_miyd_e (d : Byte) (s : State) : Host.Outcome State Fault Refusal :=
  mapMem 4 (resBit 3) (.idx .iy d) (some .e) s

/-- `res 3,(iy+*),h` (R298). -/
def exec_res_3_miyd_h (d : Byte) (s : State) : Host.Outcome State Fault Refusal :=
  mapMem 4 (resBit 3) (.idx .iy d) (some .h) s

/-- `res 3,(iy+*),l` (R298). -/
def exec_res_3_miyd_l (d : Byte) (s : State) : Host.Outcome State Fault Refusal :=
  mapMem 4 (resBit 3) (.idx .iy d) (some .l) s

/-- `res 3,(iy+*)` (R298). -/
def exec_res_3_miyd (d : Byte) (s : State) : Host.Outcome State Fault Refusal :=
  mapMem 4 (resBit 3) (.idx .iy d) none s

/-- `res 3,(iy+*),a` (R298). -/
def exec_res_3_miyd_a (d : Byte) (s : State) : Host.Outcome State Fault Refusal :=
  mapMem 4 (resBit 3) (.idx .iy d) (some .a) s

/-- `res 4,(iy+*),b` (R298). -/
def exec_res_4_miyd_b (d : Byte) (s : State) : Host.Outcome State Fault Refusal :=
  mapMem 4 (resBit 4) (.idx .iy d) (some .b) s

/-- `res 4,(iy+*),c` (R298). -/
def exec_res_4_miyd_c (d : Byte) (s : State) : Host.Outcome State Fault Refusal :=
  mapMem 4 (resBit 4) (.idx .iy d) (some .c) s

/-- `res 4,(iy+*),d` (R298). -/
def exec_res_4_miyd_d (d : Byte) (s : State) : Host.Outcome State Fault Refusal :=
  mapMem 4 (resBit 4) (.idx .iy d) (some .d) s

/-- `res 4,(iy+*),e` (R298). -/
def exec_res_4_miyd_e (d : Byte) (s : State) : Host.Outcome State Fault Refusal :=
  mapMem 4 (resBit 4) (.idx .iy d) (some .e) s

/-- `res 4,(iy+*),h` (R298). -/
def exec_res_4_miyd_h (d : Byte) (s : State) : Host.Outcome State Fault Refusal :=
  mapMem 4 (resBit 4) (.idx .iy d) (some .h) s

/-- `res 4,(iy+*),l` (R298). -/
def exec_res_4_miyd_l (d : Byte) (s : State) : Host.Outcome State Fault Refusal :=
  mapMem 4 (resBit 4) (.idx .iy d) (some .l) s

/-- `res 4,(iy+*)` (R298). -/
def exec_res_4_miyd (d : Byte) (s : State) : Host.Outcome State Fault Refusal :=
  mapMem 4 (resBit 4) (.idx .iy d) none s

/-- `res 4,(iy+*),a` (R298). -/
def exec_res_4_miyd_a (d : Byte) (s : State) : Host.Outcome State Fault Refusal :=
  mapMem 4 (resBit 4) (.idx .iy d) (some .a) s

/-- `res 5,(iy+*),b` (R298). -/
def exec_res_5_miyd_b (d : Byte) (s : State) : Host.Outcome State Fault Refusal :=
  mapMem 4 (resBit 5) (.idx .iy d) (some .b) s

/-- `res 5,(iy+*),c` (R298). -/
def exec_res_5_miyd_c (d : Byte) (s : State) : Host.Outcome State Fault Refusal :=
  mapMem 4 (resBit 5) (.idx .iy d) (some .c) s

/-- `res 5,(iy+*),d` (R298). -/
def exec_res_5_miyd_d (d : Byte) (s : State) : Host.Outcome State Fault Refusal :=
  mapMem 4 (resBit 5) (.idx .iy d) (some .d) s

/-- `res 5,(iy+*),e` (R298). -/
def exec_res_5_miyd_e (d : Byte) (s : State) : Host.Outcome State Fault Refusal :=
  mapMem 4 (resBit 5) (.idx .iy d) (some .e) s

/-- `res 5,(iy+*),h` (R298). -/
def exec_res_5_miyd_h (d : Byte) (s : State) : Host.Outcome State Fault Refusal :=
  mapMem 4 (resBit 5) (.idx .iy d) (some .h) s

/-- `res 5,(iy+*),l` (R298). -/
def exec_res_5_miyd_l (d : Byte) (s : State) : Host.Outcome State Fault Refusal :=
  mapMem 4 (resBit 5) (.idx .iy d) (some .l) s

/-- `res 5,(iy+*)` (R298). -/
def exec_res_5_miyd (d : Byte) (s : State) : Host.Outcome State Fault Refusal :=
  mapMem 4 (resBit 5) (.idx .iy d) none s

/-- `res 5,(iy+*),a` (R298). -/
def exec_res_5_miyd_a (d : Byte) (s : State) : Host.Outcome State Fault Refusal :=
  mapMem 4 (resBit 5) (.idx .iy d) (some .a) s

/-- `res 6,(iy+*),b` (R298). -/
def exec_res_6_miyd_b (d : Byte) (s : State) : Host.Outcome State Fault Refusal :=
  mapMem 4 (resBit 6) (.idx .iy d) (some .b) s

/-- `res 6,(iy+*),c` (R298). -/
def exec_res_6_miyd_c (d : Byte) (s : State) : Host.Outcome State Fault Refusal :=
  mapMem 4 (resBit 6) (.idx .iy d) (some .c) s

/-- `res 6,(iy+*),d` (R298). -/
def exec_res_6_miyd_d (d : Byte) (s : State) : Host.Outcome State Fault Refusal :=
  mapMem 4 (resBit 6) (.idx .iy d) (some .d) s

/-- `res 6,(iy+*),e` (R298). -/
def exec_res_6_miyd_e (d : Byte) (s : State) : Host.Outcome State Fault Refusal :=
  mapMem 4 (resBit 6) (.idx .iy d) (some .e) s

/-- `res 6,(iy+*),h` (R298). -/
def exec_res_6_miyd_h (d : Byte) (s : State) : Host.Outcome State Fault Refusal :=
  mapMem 4 (resBit 6) (.idx .iy d) (some .h) s

/-- `res 6,(iy+*),l` (R298). -/
def exec_res_6_miyd_l (d : Byte) (s : State) : Host.Outcome State Fault Refusal :=
  mapMem 4 (resBit 6) (.idx .iy d) (some .l) s

/-- `res 6,(iy+*)` (R298). -/
def exec_res_6_miyd (d : Byte) (s : State) : Host.Outcome State Fault Refusal :=
  mapMem 4 (resBit 6) (.idx .iy d) none s

/-- `res 6,(iy+*),a` (R298). -/
def exec_res_6_miyd_a (d : Byte) (s : State) : Host.Outcome State Fault Refusal :=
  mapMem 4 (resBit 6) (.idx .iy d) (some .a) s

/-- `res 7,(iy+*),b` (R298). -/
def exec_res_7_miyd_b (d : Byte) (s : State) : Host.Outcome State Fault Refusal :=
  mapMem 4 (resBit 7) (.idx .iy d) (some .b) s

/-- `res 7,(iy+*),c` (R298). -/
def exec_res_7_miyd_c (d : Byte) (s : State) : Host.Outcome State Fault Refusal :=
  mapMem 4 (resBit 7) (.idx .iy d) (some .c) s

/-- `res 7,(iy+*),d` (R298). -/
def exec_res_7_miyd_d (d : Byte) (s : State) : Host.Outcome State Fault Refusal :=
  mapMem 4 (resBit 7) (.idx .iy d) (some .d) s

/-- `res 7,(iy+*),e` (R298). -/
def exec_res_7_miyd_e (d : Byte) (s : State) : Host.Outcome State Fault Refusal :=
  mapMem 4 (resBit 7) (.idx .iy d) (some .e) s

/-- `res 7,(iy+*),h` (R298). -/
def exec_res_7_miyd_h (d : Byte) (s : State) : Host.Outcome State Fault Refusal :=
  mapMem 4 (resBit 7) (.idx .iy d) (some .h) s

/-- `res 7,(iy+*),l` (R298). -/
def exec_res_7_miyd_l (d : Byte) (s : State) : Host.Outcome State Fault Refusal :=
  mapMem 4 (resBit 7) (.idx .iy d) (some .l) s

/-- `res 7,(iy+*)` (R298). -/
def exec_res_7_miyd (d : Byte) (s : State) : Host.Outcome State Fault Refusal :=
  mapMem 4 (resBit 7) (.idx .iy d) none s

/-- `res 7,(iy+*),a` (R298). -/
def exec_res_7_miyd_a (d : Byte) (s : State) : Host.Outcome State Fault Refusal :=
  mapMem 4 (resBit 7) (.idx .iy d) (some .a) s

/-- `set 0,(iy+*),b` (R295). -/
def exec_set_0_miyd_b (d : Byte) (s : State) : Host.Outcome State Fault Refusal :=
  mapMem 4 (setBit 0) (.idx .iy d) (some .b) s

/-- `set 0,(iy+*),c` (R295). -/
def exec_set_0_miyd_c (d : Byte) (s : State) : Host.Outcome State Fault Refusal :=
  mapMem 4 (setBit 0) (.idx .iy d) (some .c) s

/-- `set 0,(iy+*),d` (R295). -/
def exec_set_0_miyd_d (d : Byte) (s : State) : Host.Outcome State Fault Refusal :=
  mapMem 4 (setBit 0) (.idx .iy d) (some .d) s

/-- `set 0,(iy+*),e` (R295). -/
def exec_set_0_miyd_e (d : Byte) (s : State) : Host.Outcome State Fault Refusal :=
  mapMem 4 (setBit 0) (.idx .iy d) (some .e) s

/-- `set 0,(iy+*),h` (R295). -/
def exec_set_0_miyd_h (d : Byte) (s : State) : Host.Outcome State Fault Refusal :=
  mapMem 4 (setBit 0) (.idx .iy d) (some .h) s

/-- `set 0,(iy+*),l` (R295). -/
def exec_set_0_miyd_l (d : Byte) (s : State) : Host.Outcome State Fault Refusal :=
  mapMem 4 (setBit 0) (.idx .iy d) (some .l) s

/-- `set 0,(iy+*)` (R295). -/
def exec_set_0_miyd (d : Byte) (s : State) : Host.Outcome State Fault Refusal :=
  mapMem 4 (setBit 0) (.idx .iy d) none s

/-- `set 0,(iy+*),a` (R295). -/
def exec_set_0_miyd_a (d : Byte) (s : State) : Host.Outcome State Fault Refusal :=
  mapMem 4 (setBit 0) (.idx .iy d) (some .a) s

/-- `set 1,(iy+*),b` (R295). -/
def exec_set_1_miyd_b (d : Byte) (s : State) : Host.Outcome State Fault Refusal :=
  mapMem 4 (setBit 1) (.idx .iy d) (some .b) s

/-- `set 1,(iy+*),c` (R295). -/
def exec_set_1_miyd_c (d : Byte) (s : State) : Host.Outcome State Fault Refusal :=
  mapMem 4 (setBit 1) (.idx .iy d) (some .c) s

/-- `set 1,(iy+*),d` (R295). -/
def exec_set_1_miyd_d (d : Byte) (s : State) : Host.Outcome State Fault Refusal :=
  mapMem 4 (setBit 1) (.idx .iy d) (some .d) s

/-- `set 1,(iy+*),e` (R295). -/
def exec_set_1_miyd_e (d : Byte) (s : State) : Host.Outcome State Fault Refusal :=
  mapMem 4 (setBit 1) (.idx .iy d) (some .e) s

/-- `set 1,(iy+*),h` (R295). -/
def exec_set_1_miyd_h (d : Byte) (s : State) : Host.Outcome State Fault Refusal :=
  mapMem 4 (setBit 1) (.idx .iy d) (some .h) s

/-- `set 1,(iy+*),l` (R295). -/
def exec_set_1_miyd_l (d : Byte) (s : State) : Host.Outcome State Fault Refusal :=
  mapMem 4 (setBit 1) (.idx .iy d) (some .l) s

/-- `set 1,(iy+*)` (R295). -/
def exec_set_1_miyd (d : Byte) (s : State) : Host.Outcome State Fault Refusal :=
  mapMem 4 (setBit 1) (.idx .iy d) none s

/-- `set 1,(iy+*),a` (R295). -/
def exec_set_1_miyd_a (d : Byte) (s : State) : Host.Outcome State Fault Refusal :=
  mapMem 4 (setBit 1) (.idx .iy d) (some .a) s

/-- `set 2,(iy+*),b` (R295). -/
def exec_set_2_miyd_b (d : Byte) (s : State) : Host.Outcome State Fault Refusal :=
  mapMem 4 (setBit 2) (.idx .iy d) (some .b) s

/-- `set 2,(iy+*),c` (R295). -/
def exec_set_2_miyd_c (d : Byte) (s : State) : Host.Outcome State Fault Refusal :=
  mapMem 4 (setBit 2) (.idx .iy d) (some .c) s

/-- `set 2,(iy+*),d` (R295). -/
def exec_set_2_miyd_d (d : Byte) (s : State) : Host.Outcome State Fault Refusal :=
  mapMem 4 (setBit 2) (.idx .iy d) (some .d) s

/-- `set 2,(iy+*),e` (R295). -/
def exec_set_2_miyd_e (d : Byte) (s : State) : Host.Outcome State Fault Refusal :=
  mapMem 4 (setBit 2) (.idx .iy d) (some .e) s

/-- `set 2,(iy+*),h` (R295). -/
def exec_set_2_miyd_h (d : Byte) (s : State) : Host.Outcome State Fault Refusal :=
  mapMem 4 (setBit 2) (.idx .iy d) (some .h) s

/-- `set 2,(iy+*),l` (R295). -/
def exec_set_2_miyd_l (d : Byte) (s : State) : Host.Outcome State Fault Refusal :=
  mapMem 4 (setBit 2) (.idx .iy d) (some .l) s

/-- `set 2,(iy+*)` (R295). -/
def exec_set_2_miyd (d : Byte) (s : State) : Host.Outcome State Fault Refusal :=
  mapMem 4 (setBit 2) (.idx .iy d) none s

/-- `set 2,(iy+*),a` (R295). -/
def exec_set_2_miyd_a (d : Byte) (s : State) : Host.Outcome State Fault Refusal :=
  mapMem 4 (setBit 2) (.idx .iy d) (some .a) s

/-- `set 3,(iy+*),b` (R295). -/
def exec_set_3_miyd_b (d : Byte) (s : State) : Host.Outcome State Fault Refusal :=
  mapMem 4 (setBit 3) (.idx .iy d) (some .b) s

/-- `set 3,(iy+*),c` (R295). -/
def exec_set_3_miyd_c (d : Byte) (s : State) : Host.Outcome State Fault Refusal :=
  mapMem 4 (setBit 3) (.idx .iy d) (some .c) s

/-- `set 3,(iy+*),d` (R295). -/
def exec_set_3_miyd_d (d : Byte) (s : State) : Host.Outcome State Fault Refusal :=
  mapMem 4 (setBit 3) (.idx .iy d) (some .d) s

/-- `set 3,(iy+*),e` (R295). -/
def exec_set_3_miyd_e (d : Byte) (s : State) : Host.Outcome State Fault Refusal :=
  mapMem 4 (setBit 3) (.idx .iy d) (some .e) s

/-- `set 3,(iy+*),h` (R295). -/
def exec_set_3_miyd_h (d : Byte) (s : State) : Host.Outcome State Fault Refusal :=
  mapMem 4 (setBit 3) (.idx .iy d) (some .h) s

/-- `set 3,(iy+*),l` (R295). -/
def exec_set_3_miyd_l (d : Byte) (s : State) : Host.Outcome State Fault Refusal :=
  mapMem 4 (setBit 3) (.idx .iy d) (some .l) s

/-- `set 3,(iy+*)` (R295). -/
def exec_set_3_miyd (d : Byte) (s : State) : Host.Outcome State Fault Refusal :=
  mapMem 4 (setBit 3) (.idx .iy d) none s

/-- `set 3,(iy+*),a` (R295). -/
def exec_set_3_miyd_a (d : Byte) (s : State) : Host.Outcome State Fault Refusal :=
  mapMem 4 (setBit 3) (.idx .iy d) (some .a) s

/-- `set 4,(iy+*),b` (R295). -/
def exec_set_4_miyd_b (d : Byte) (s : State) : Host.Outcome State Fault Refusal :=
  mapMem 4 (setBit 4) (.idx .iy d) (some .b) s

/-- `set 4,(iy+*),c` (R295). -/
def exec_set_4_miyd_c (d : Byte) (s : State) : Host.Outcome State Fault Refusal :=
  mapMem 4 (setBit 4) (.idx .iy d) (some .c) s

/-- `set 4,(iy+*),d` (R295). -/
def exec_set_4_miyd_d (d : Byte) (s : State) : Host.Outcome State Fault Refusal :=
  mapMem 4 (setBit 4) (.idx .iy d) (some .d) s

/-- `set 4,(iy+*),e` (R295). -/
def exec_set_4_miyd_e (d : Byte) (s : State) : Host.Outcome State Fault Refusal :=
  mapMem 4 (setBit 4) (.idx .iy d) (some .e) s

/-- `set 4,(iy+*),h` (R295). -/
def exec_set_4_miyd_h (d : Byte) (s : State) : Host.Outcome State Fault Refusal :=
  mapMem 4 (setBit 4) (.idx .iy d) (some .h) s

/-- `set 4,(iy+*),l` (R295). -/
def exec_set_4_miyd_l (d : Byte) (s : State) : Host.Outcome State Fault Refusal :=
  mapMem 4 (setBit 4) (.idx .iy d) (some .l) s

/-- `set 4,(iy+*)` (R295). -/
def exec_set_4_miyd (d : Byte) (s : State) : Host.Outcome State Fault Refusal :=
  mapMem 4 (setBit 4) (.idx .iy d) none s

/-- `set 4,(iy+*),a` (R295). -/
def exec_set_4_miyd_a (d : Byte) (s : State) : Host.Outcome State Fault Refusal :=
  mapMem 4 (setBit 4) (.idx .iy d) (some .a) s

/-- `set 5,(iy+*),b` (R295). -/
def exec_set_5_miyd_b (d : Byte) (s : State) : Host.Outcome State Fault Refusal :=
  mapMem 4 (setBit 5) (.idx .iy d) (some .b) s

/-- `set 5,(iy+*),c` (R295). -/
def exec_set_5_miyd_c (d : Byte) (s : State) : Host.Outcome State Fault Refusal :=
  mapMem 4 (setBit 5) (.idx .iy d) (some .c) s

/-- `set 5,(iy+*),d` (R295). -/
def exec_set_5_miyd_d (d : Byte) (s : State) : Host.Outcome State Fault Refusal :=
  mapMem 4 (setBit 5) (.idx .iy d) (some .d) s

/-- `set 5,(iy+*),e` (R295). -/
def exec_set_5_miyd_e (d : Byte) (s : State) : Host.Outcome State Fault Refusal :=
  mapMem 4 (setBit 5) (.idx .iy d) (some .e) s

/-- `set 5,(iy+*),h` (R295). -/
def exec_set_5_miyd_h (d : Byte) (s : State) : Host.Outcome State Fault Refusal :=
  mapMem 4 (setBit 5) (.idx .iy d) (some .h) s

/-- `set 5,(iy+*),l` (R295). -/
def exec_set_5_miyd_l (d : Byte) (s : State) : Host.Outcome State Fault Refusal :=
  mapMem 4 (setBit 5) (.idx .iy d) (some .l) s

/-- `set 5,(iy+*)` (R295). -/
def exec_set_5_miyd (d : Byte) (s : State) : Host.Outcome State Fault Refusal :=
  mapMem 4 (setBit 5) (.idx .iy d) none s

/-- `set 5,(iy+*),a` (R295). -/
def exec_set_5_miyd_a (d : Byte) (s : State) : Host.Outcome State Fault Refusal :=
  mapMem 4 (setBit 5) (.idx .iy d) (some .a) s

/-- `set 6,(iy+*),b` (R295). -/
def exec_set_6_miyd_b (d : Byte) (s : State) : Host.Outcome State Fault Refusal :=
  mapMem 4 (setBit 6) (.idx .iy d) (some .b) s

/-- `set 6,(iy+*),c` (R295). -/
def exec_set_6_miyd_c (d : Byte) (s : State) : Host.Outcome State Fault Refusal :=
  mapMem 4 (setBit 6) (.idx .iy d) (some .c) s

/-- `set 6,(iy+*),d` (R295). -/
def exec_set_6_miyd_d (d : Byte) (s : State) : Host.Outcome State Fault Refusal :=
  mapMem 4 (setBit 6) (.idx .iy d) (some .d) s

/-- `set 6,(iy+*),e` (R295). -/
def exec_set_6_miyd_e (d : Byte) (s : State) : Host.Outcome State Fault Refusal :=
  mapMem 4 (setBit 6) (.idx .iy d) (some .e) s

/-- `set 6,(iy+*),h` (R295). -/
def exec_set_6_miyd_h (d : Byte) (s : State) : Host.Outcome State Fault Refusal :=
  mapMem 4 (setBit 6) (.idx .iy d) (some .h) s

/-- `set 6,(iy+*),l` (R295). -/
def exec_set_6_miyd_l (d : Byte) (s : State) : Host.Outcome State Fault Refusal :=
  mapMem 4 (setBit 6) (.idx .iy d) (some .l) s

/-- `set 6,(iy+*)` (R295). -/
def exec_set_6_miyd (d : Byte) (s : State) : Host.Outcome State Fault Refusal :=
  mapMem 4 (setBit 6) (.idx .iy d) none s

/-- `set 6,(iy+*),a` (R295). -/
def exec_set_6_miyd_a (d : Byte) (s : State) : Host.Outcome State Fault Refusal :=
  mapMem 4 (setBit 6) (.idx .iy d) (some .a) s

/-- `set 7,(iy+*),b` (R295). -/
def exec_set_7_miyd_b (d : Byte) (s : State) : Host.Outcome State Fault Refusal :=
  mapMem 4 (setBit 7) (.idx .iy d) (some .b) s

/-- `set 7,(iy+*),c` (R295). -/
def exec_set_7_miyd_c (d : Byte) (s : State) : Host.Outcome State Fault Refusal :=
  mapMem 4 (setBit 7) (.idx .iy d) (some .c) s

/-- `set 7,(iy+*),d` (R295). -/
def exec_set_7_miyd_d (d : Byte) (s : State) : Host.Outcome State Fault Refusal :=
  mapMem 4 (setBit 7) (.idx .iy d) (some .d) s

/-- `set 7,(iy+*),e` (R295). -/
def exec_set_7_miyd_e (d : Byte) (s : State) : Host.Outcome State Fault Refusal :=
  mapMem 4 (setBit 7) (.idx .iy d) (some .e) s

/-- `set 7,(iy+*),h` (R295). -/
def exec_set_7_miyd_h (d : Byte) (s : State) : Host.Outcome State Fault Refusal :=
  mapMem 4 (setBit 7) (.idx .iy d) (some .h) s

/-- `set 7,(iy+*),l` (R295). -/
def exec_set_7_miyd_l (d : Byte) (s : State) : Host.Outcome State Fault Refusal :=
  mapMem 4 (setBit 7) (.idx .iy d) (some .l) s

/-- `set 7,(iy+*)` (R295). -/
def exec_set_7_miyd (d : Byte) (s : State) : Host.Outcome State Fault Refusal :=
  mapMem 4 (setBit 7) (.idx .iy d) none s

/-- `set 7,(iy+*),a` (R295). -/
def exec_set_7_miyd_a (d : Byte) (s : State) : Host.Outcome State Fault Refusal :=
  mapMem 4 (setBit 7) (.idx .iy d) (some .a) s

end Sys2Proof.Machine
end

