-- ==== Sys2Proof/Machine/Block.lean ====
section
/-! DEFINITION. What the block instructions of 45_compare_block.md and 48_io.md share: the direction, and the do-while
repeat that runs every iteration inside one step (spec 20_memory.md R62; 45_compare_block.md, 92_eei_decisions.md D16). -/

namespace Sys2Proof.Machine

/-- `k = +1` or `k = -1` (R241, R246, R316). -/
inductive Dir where
  | up | down
deriving DecidableEq, Repr

/-- `trunc16(v + k)`. -/
def Dir.step : Dir → Word → Word
  | .up, v => v + 1
  | .down, v => v - 1

/-- `trunc8(v + k)`. -/
def Dir.step8 : Dir → Byte → Byte
  | .up, v => v + 1
  | .down, v => v - 1

/-- `do { body } while again` for at most `fuel` iterations. Each iteration after the first adds 2 to `R` under
`R_MODE = M1` (R102). -/
def repeatBlock (body : State → Except AccessFault State) (again : State → Bool) : Nat → State → Except AccessFault State
  | 0, s => .ok s
  | fuel + 1, s => do
    let t ← body s
    if again t then repeatBlock body again fuel (t.updateR 2) else return t

/-- No repeat of a 16-bit counter runs longer: `BC = 0` on entry runs 65536 iterations (R243, D16). -/
def wordIterations : Nat := 65536

/-- No repeat of an 8-bit counter runs longer: `B = 0` on entry runs 256 iterations (R318, D16). -/
def byteIterations : Nat := 256

end Sys2Proof.Machine
end

