-- ==== Sys2Proof/Machine/CompareBlock.lean ====
section
/-! DEFINITION. Compare, block transfer and block search (spec 45_compare_block.md R240 to R250). -/

namespace Sys2Proof.Machine

/-- `cp s` (R240): `A` is not written; bits 5 and 3 from the operand. -/
def compareA (len : Nat) (src : Src8) (s : State) : Host.Outcome State Fault Refusal :=
  s.finish len do
    let v ← s.src8 src
    return s.setFlags ((s.flags.commitSZHVNC (sub8 s.a v false)).bits53 v)

/-- `LdStep(k)` (R241): one byte from `(HL)` to `(DE)`. -/
def ldStep (dir : Dir) (s : State) : Except AccessFault State := do
  let v ← s.memRead (s.pair .hl)
  let s1 ← s.memWrite (s.pair .de) v
  let s2 := ((s1.setPair .hl (dir.step (s1.pair .hl))).setPair .de (dir.step (s1.pair .de))).setPair .bc (s1.pair .bc - 1)
  let t := v + s2.a
  let x : Flags :=
    { s2.flags with
      h := false, n := false, pv := s2.pair .bc != 0,
      f5 := s.undocBit 0 (t.getLsbD 1), f3 := s.undocBit 1 (t.getLsbD 3) }
  return (s2.setFlags x).tookDraws 2

/-- `CpStep(k)` (R246): `A` compared with `(HL)`; `A` and `C` are not written. -/
def cpStep (dir : Dir) (s : State) : Except AccessFault State := do
  let v ← s.memRead (s.pair .hl)
  let o := sub8 s.a v false
  let s1 := (s.setPair .hl (dir.step (s.pair .hl))).setPair .bc (s.pair .bc - 1)
  let t := o.res - (BitVec.ofBool o.h).zeroExtend 8
  let x : Flags :=
    { s1.flags with
      s := o.s, z := o.z, h := o.h, n := true, pv := s1.pair .bc != 0,
      f5 := s.undocBit 0 (t.getLsbD 1), f3 := s.undocBit 1 (t.getLsbD 3) }
  return (s1.setFlags x).tookDraws 2

/-- "repeat variants loop until BC reaches zero" (R243, R245). -/
def bcNotZero (s : State) : Bool := s.pair .bc != 0

/-- `BC != 0 and F.Z == 0` (R248, R250). -/
def searchGoesOn (s : State) : Bool := s.pair .bc != 0 && !s.flags.z

/-! ## The meanings -/

/-- `cp b` (R240). -/
def exec_cp_b (s : State) : Host.Outcome State Fault Refusal :=
  compareA 1 (.reg .b) s

/-- `cp c` (R240). -/
def exec_cp_c (s : State) : Host.Outcome State Fault Refusal :=
  compareA 1 (.reg .c) s

/-- `cp d` (R240). -/
def exec_cp_d (s : State) : Host.Outcome State Fault Refusal :=
  compareA 1 (.reg .d) s

/-- `cp e` (R240). -/
def exec_cp_e (s : State) : Host.Outcome State Fault Refusal :=
  compareA 1 (.reg .e) s

/-- `cp h` (R240). -/
def exec_cp_h (s : State) : Host.Outcome State Fault Refusal :=
  compareA 1 (.reg .h) s

/-- `cp l` (R240). -/
def exec_cp_l (s : State) : Host.Outcome State Fault Refusal :=
  compareA 1 (.reg .l) s

/-- `cp (hl)` (R240). -/
def exec_cp_mhl (s : State) : Host.Outcome State Fault Refusal :=
  compareA 1 (.mem .hl) s

/-- `cp a` (R240). -/
def exec_cp_a (s : State) : Host.Outcome State Fault Refusal :=
  compareA 1 (.reg .a) s

/-- `cp *` (R240). -/
def exec_cp_n (n : Byte) (s : State) : Host.Outcome State Fault Refusal :=
  compareA 2 (.imm n) s

/-- `ldi` (R242). -/
def exec_ldi (s : State) : Host.Outcome State Fault Refusal :=
  s.finish 2 (ldStep .up s)

/-- `cpi` (R247). -/
def exec_cpi (s : State) : Host.Outcome State Fault Refusal :=
  s.finish 2 (cpStep .up s)

/-- `ldd` (R244). -/
def exec_ldd (s : State) : Host.Outcome State Fault Refusal :=
  s.finish 2 (ldStep .down s)

/-- `cpd` (R249). -/
def exec_cpd (s : State) : Host.Outcome State Fault Refusal :=
  s.finish 2 (cpStep .down s)

/-- `ldir` (R243). -/
def exec_ldir (s : State) : Host.Outcome State Fault Refusal :=
  s.finish 2 (repeatBlock (ldStep .up) bcNotZero wordIterations s)

/-- `cpir` (R248). -/
def exec_cpir (s : State) : Host.Outcome State Fault Refusal :=
  s.finish 2 (repeatBlock (cpStep .up) searchGoesOn wordIterations s)

/-- `lddr` (R245). -/
def exec_lddr (s : State) : Host.Outcome State Fault Refusal :=
  s.finish 2 (repeatBlock (ldStep .down) bcNotZero wordIterations s)

/-- `cpdr` (R250). -/
def exec_cpdr (s : State) : Host.Outcome State Fault Refusal :=
  s.finish 2 (repeatBlock (cpStep .down) searchGoesOn wordIterations s)

/-- `cp ixh` (R240). -/
def exec_cp_ixh (s : State) : Host.Outcome State Fault Refusal :=
  compareA 2 (.reg .ixh) s

/-- `cp ixl` (R240). -/
def exec_cp_ixl (s : State) : Host.Outcome State Fault Refusal :=
  compareA 2 (.reg .ixl) s

/-- `cp (ix+*)` (R240). -/
def exec_cp_mixd (d : Byte) (s : State) : Host.Outcome State Fault Refusal :=
  compareA 3 (.mem (.idx .ix d)) s

/-- `cp iyh` (R240). -/
def exec_cp_iyh (s : State) : Host.Outcome State Fault Refusal :=
  compareA 2 (.reg .iyh) s

/-- `cp iyl` (R240). -/
def exec_cp_iyl (s : State) : Host.Outcome State Fault Refusal :=
  compareA 2 (.reg .iyl) s

/-- `cp (iy+*)` (R240). -/
def exec_cp_miyd (d : Byte) (s : State) : Host.Outcome State Fault Refusal :=
  compareA 3 (.mem (.idx .iy d)) s

end Sys2Proof.Machine
end

