-- ==== Sys2Proof/Machine/ControlFlow.lean ====
section
/-! DEFINITION. Control-flow instructions (spec 44_control_flow.md R210 to R224). When a meaning runs, `PC` holds the
address after the whole instruction. -/

namespace Sys2Proof.Machine

/-- `PC <- target`. -/
def State.jump (s : State) (target : Word) : State := { s with pc := target }

/-- `PC <- target` when the condition holds (R211, R213). -/
def jumpIf (taken : Bool) (target : Word) (s : State) : Host.Outcome State Fault Refusal :=
  .next (if taken then s.jump target else s)

/-- `B <- trunc8(B - 1); if B != 0: PC <- target` (R216): no flag. -/
def decJump (e : Byte) (s : State) : Host.Outcome State Fault Refusal :=
  let b := s.b - 1
  let s1 := s.setReg8 .b b
  .next (if b != 0 then s1.jump (s1.relTarget e) else s1)

/-- `Push16(PC); PC <- target` (R217, R223): the pushed `PC` is the address after the instruction. -/
def callTo (len : Nat) (target : Word) (s : State) : Host.Outcome State Fault Refusal :=
  s.finish len do
    let s1 ← s.push16 s.pc
    return s1.jump target

/-- `if Cond(cc): Push16(PC); PC <- nn` (R218): not taken, no access. -/
def callIf (len : Nat) (taken : Bool) (target : Word) (s : State) : Host.Outcome State Fault Refusal :=
  if taken then callTo len target s else .next s

/-- `PC <- Pop16()` (R219). -/
def retTo (len : Nat) (s : State) : Host.Outcome State Fault Refusal :=
  s.finish len do
    let o ← s.pop16
    return o.2.jump o.1

/-- `if Cond(cc): PC <- Pop16()` (R220): not taken, no access. -/
def retIf (len : Nat) (taken : Bool) (s : State) : Host.Outcome State Fault Refusal :=
  if taken then retTo len s else .next s

/-- `PC <- Pop16(); IFF1 <- IFF2` (R221, R222, R377): the return from an interrupt restores nothing else. -/
def retInterrupt (len : Nat) (s : State) : Host.Outcome State Fault Refusal :=
  s.finish len do
    let o ← s.pop16
    return { o.2.jump o.1 with iff1 := o.2.iff2 }

/-! ## The meanings -/

/-- `djnz *` (R216). -/
def exec_djnz_e (e : Byte) (s : State) : Host.Outcome State Fault Refusal :=
  decJump e s

/-- `jr *` (R212). -/
def exec_jr_e (e : Byte) (s : State) : Host.Outcome State Fault Refusal :=
  jumpIf true (s.relTarget e) s

/-- `jr nz,*` (R213). -/
def exec_jr_nz_e (e : Byte) (s : State) : Host.Outcome State Fault Refusal :=
  jumpIf (s.cond .nz) (s.relTarget e) s

/-- `jr z,*` (R213). -/
def exec_jr_z_e (e : Byte) (s : State) : Host.Outcome State Fault Refusal :=
  jumpIf (s.cond .z) (s.relTarget e) s

/-- `jr nc,*` (R213). -/
def exec_jr_nc_e (e : Byte) (s : State) : Host.Outcome State Fault Refusal :=
  jumpIf (s.cond .nc) (s.relTarget e) s

/-- `jr c,*` (R213). -/
def exec_jr_c_e (e : Byte) (s : State) : Host.Outcome State Fault Refusal :=
  jumpIf (s.cond .c) (s.relTarget e) s

/-- `ret nz` (R220). -/
def exec_ret_nz (s : State) : Host.Outcome State Fault Refusal :=
  retIf 1 (s.cond .nz) s

/-- `jp nz,**` (R211). -/
def exec_jp_nz_nn (nn : Word) (s : State) : Host.Outcome State Fault Refusal :=
  jumpIf (s.cond .nz) nn s

/-- `jp **` (R210). -/
def exec_jp_nn (nn : Word) (s : State) : Host.Outcome State Fault Refusal :=
  jumpIf true nn s

/-- `call nz,**` (R218). -/
def exec_call_nz_nn (nn : Word) (s : State) : Host.Outcome State Fault Refusal :=
  callIf 3 (s.cond .nz) nn s

/-- `rst 00h` (R223). -/
def exec_rst_00h (s : State) : Host.Outcome State Fault Refusal :=
  callTo 1 0x00 s

/-- `ret z` (R220). -/
def exec_ret_z (s : State) : Host.Outcome State Fault Refusal :=
  retIf 1 (s.cond .z) s

/-- `ret` (R219). -/
def exec_ret (s : State) : Host.Outcome State Fault Refusal :=
  retTo 1 s

/-- `jp z,**` (R211). -/
def exec_jp_z_nn (nn : Word) (s : State) : Host.Outcome State Fault Refusal :=
  jumpIf (s.cond .z) nn s

/-- `call z,**` (R218). -/
def exec_call_z_nn (nn : Word) (s : State) : Host.Outcome State Fault Refusal :=
  callIf 3 (s.cond .z) nn s

/-- `call **` (R217). -/
def exec_call_nn (nn : Word) (s : State) : Host.Outcome State Fault Refusal :=
  callTo 3 nn s

/-- `rst 08h` (R223). -/
def exec_rst_08h (s : State) : Host.Outcome State Fault Refusal :=
  callTo 1 0x08 s

/-- `ret nc` (R220). -/
def exec_ret_nc (s : State) : Host.Outcome State Fault Refusal :=
  retIf 1 (s.cond .nc) s

/-- `jp nc,**` (R211). -/
def exec_jp_nc_nn (nn : Word) (s : State) : Host.Outcome State Fault Refusal :=
  jumpIf (s.cond .nc) nn s

/-- `call nc,**` (R218). -/
def exec_call_nc_nn (nn : Word) (s : State) : Host.Outcome State Fault Refusal :=
  callIf 3 (s.cond .nc) nn s

/-- `rst 10h` (R223). -/
def exec_rst_10h (s : State) : Host.Outcome State Fault Refusal :=
  callTo 1 0x10 s

/-- `ret c` (R220). -/
def exec_ret_c (s : State) : Host.Outcome State Fault Refusal :=
  retIf 1 (s.cond .c) s

/-- `jp c,**` (R211). -/
def exec_jp_c_nn (nn : Word) (s : State) : Host.Outcome State Fault Refusal :=
  jumpIf (s.cond .c) nn s

/-- `call c,**` (R218). -/
def exec_call_c_nn (nn : Word) (s : State) : Host.Outcome State Fault Refusal :=
  callIf 3 (s.cond .c) nn s

/-- `rst 18h` (R223). -/
def exec_rst_18h (s : State) : Host.Outcome State Fault Refusal :=
  callTo 1 0x18 s

/-- `ret po` (R220). -/
def exec_ret_po (s : State) : Host.Outcome State Fault Refusal :=
  retIf 1 (s.cond .po) s

/-- `jp po,**` (R211). -/
def exec_jp_po_nn (nn : Word) (s : State) : Host.Outcome State Fault Refusal :=
  jumpIf (s.cond .po) nn s

/-- `call po,**` (R218). -/
def exec_call_po_nn (nn : Word) (s : State) : Host.Outcome State Fault Refusal :=
  callIf 3 (s.cond .po) nn s

/-- `rst 20h` (R223). -/
def exec_rst_20h (s : State) : Host.Outcome State Fault Refusal :=
  callTo 1 0x20 s

/-- `ret pe` (R220). -/
def exec_ret_pe (s : State) : Host.Outcome State Fault Refusal :=
  retIf 1 (s.cond .pe) s

/-- `jp (hl)` (R214). -/
def exec_jp_mhl (s : State) : Host.Outcome State Fault Refusal :=
  jumpIf true (s.pair .hl) s

/-- `jp pe,**` (R211). -/
def exec_jp_pe_nn (nn : Word) (s : State) : Host.Outcome State Fault Refusal :=
  jumpIf (s.cond .pe) nn s

/-- `call pe,**` (R218). -/
def exec_call_pe_nn (nn : Word) (s : State) : Host.Outcome State Fault Refusal :=
  callIf 3 (s.cond .pe) nn s

/-- `rst 28h` (R223). -/
def exec_rst_28h (s : State) : Host.Outcome State Fault Refusal :=
  callTo 1 0x28 s

/-- `ret p` (R220). -/
def exec_ret_p (s : State) : Host.Outcome State Fault Refusal :=
  retIf 1 (s.cond .p) s

/-- `jp p,**` (R211). -/
def exec_jp_p_nn (nn : Word) (s : State) : Host.Outcome State Fault Refusal :=
  jumpIf (s.cond .p) nn s

/-- `call p,**` (R218). -/
def exec_call_p_nn (nn : Word) (s : State) : Host.Outcome State Fault Refusal :=
  callIf 3 (s.cond .p) nn s

/-- `rst 30h` (R223). -/
def exec_rst_30h (s : State) : Host.Outcome State Fault Refusal :=
  callTo 1 0x30 s

/-- `ret m` (R220). -/
def exec_ret_m (s : State) : Host.Outcome State Fault Refusal :=
  retIf 1 (s.cond .m) s

/-- `jp m,**` (R211). -/
def exec_jp_m_nn (nn : Word) (s : State) : Host.Outcome State Fault Refusal :=
  jumpIf (s.cond .m) nn s

/-- `call m,**` (R218). -/
def exec_call_m_nn (nn : Word) (s : State) : Host.Outcome State Fault Refusal :=
  callIf 3 (s.cond .m) nn s

/-- `rst 38h` (R223). -/
def exec_rst_38h (s : State) : Host.Outcome State Fault Refusal :=
  callTo 1 0x38 s

/-- `retn` (R222). -/
def exec_retn (s : State) : Host.Outcome State Fault Refusal :=
  retInterrupt 2 s

/-- `reti` (R221). -/
def exec_reti (s : State) : Host.Outcome State Fault Refusal :=
  retInterrupt 2 s

/-- `jp (ix)` (R215). -/
def exec_jp_mix (s : State) : Host.Outcome State Fault Refusal :=
  jumpIf true (s.pair .ix) s

/-- `jp (iy)` (R215). -/
def exec_jp_miy (s : State) : Host.Outcome State Fault Refusal :=
  jumpIf true (s.pair .iy) s

end Sys2Proof.Machine
end

