-- ==== Sys2Proof/Machine/Exchange.lean ====
section
/-! DEFINITION. Exchange instructions (spec 41_exchange.md R150 to R154). -/

namespace Sys2Proof.Machine

/-- `t <- MemRead(SP, 2); MemWrite(SP, 2, rr); rr <- t` (R153, R154). -/
def exchangeTop (len : Nat) (p : Pair) (s : State) : Host.Outcome State Fault Refusal :=
  s.finish len do
    let t ← s.memRead16 s.sp
    let s1 ← s.memWrite16 s.sp (s.pair p)
    return s1.setPair p t

/-! ## The meanings -/

/-- `ex af,af'` (R151). -/
def exec_ex_af_af (s : State) : Host.Outcome State Fault Refusal :=
  .next { s with a := s.a', f := s.f', a' := s.a, f' := s.f }

/-- `exx` (R152). -/
def exec_exx (s : State) : Host.Outcome State Fault Refusal :=
  .next
    { s with
      b := s.b', c := s.c', d := s.d', e := s.e', h := s.h', l := s.l',
      b' := s.b, c' := s.c, d' := s.d, e' := s.e, h' := s.h, l' := s.l }

/-- `ex (sp),hl` (R153). -/
def exec_ex_msp_hl (s : State) : Host.Outcome State Fault Refusal :=
  exchangeTop 1 .hl s

/-- `ex de,hl` (R150). -/
def exec_ex_de_hl (s : State) : Host.Outcome State Fault Refusal :=
  .next ((s.setPair .de (s.pair .hl)).setPair .hl (s.pair .de))

/-- `ex (sp),ix` (R154). -/
def exec_ex_msp_ix (s : State) : Host.Outcome State Fault Refusal :=
  exchangeTop 2 .ix s

/-- `ex (sp),iy` (R154). -/
def exec_ex_msp_iy (s : State) : Host.Outcome State Fault Refusal :=
  exchangeTop 2 .iy s

end Sys2Proof.Machine
end

