-- ==== Sys2Proof/Machine/Io.lean ====
section
/-! DEFINITION. Input and output (spec 48_io.md R310 to R324). -/

namespace Sys2Proof.Machine

/-- `v <- PortRead(C)`, the flags from `v` (R311, R312); a register is written when one is named. -/
def inPort (dst : Option Reg8) (s : State) : Host.Outcome State Fault Refusal :=
  let v := s.portRead s.c
  .next ((s.setFlags (s.flags.commitSZP v)).copyTo dst v)

/-- `PortWrite(C, v)` (R314, R315). -/
def outPort (v : Byte) (s : State) : Host.Outcome State Fault Refusal :=
  .next (s.portWrite s.c v)

/-- `IoFlags(v, j)` (R316), on the `B` already decremented; the source settles `Z` only, the rest is `U` (R101). -/
def ioFlags (v : Byte) (j : Nat) (s : State) : State :=
  let x : Flags :=
    { z := s.b == 0,
      s := s.undocBit 0 (s.b.getLsbD 7),
      f5 := s.undocBit 1 (s.b.getLsbD 5),
      f3 := s.undocBit 2 (s.b.getLsbD 3),
      h := s.undocBit 3 (decide (j > 255)),
      c := s.undocBit 4 (decide (j > 255)),
      pv := s.undocBit 5 (parity ((BitVec.ofNat 8 j &&& 7#8) ^^^ s.b)),
      n := s.undocBit 6 (v.getLsbD 7) }
  (s.setFlags x).tookDraws 7

/-- `InStep(k)` (R316). -/
def inStep (dir : Dir) (s : State) : Except AccessFault State := do
  let v := s.portRead s.c
  let s1 ← s.memWrite (s.pair .hl) v
  let s2 := (s1.setPair .hl (dir.step (s1.pair .hl))).setReg8 .b (s1.b - 1)
  return ioFlags v (v.toNat + (dir.step8 s2.c).toNat) s2

/-- `OutStep(k)` (R316). -/
def outStep (dir : Dir) (s : State) : Except AccessFault State := do
  let v ← s.memRead (s.pair .hl)
  let s1 := s.setReg8 .b (s.b - 1)
  let s2 := s1.portWrite s1.c v
  let s3 := s2.setPair .hl (dir.step (s2.pair .hl))
  return ioFlags v (v.toNat + s3.l.toNat) s3

/-- "stopping (for Repeat) when B reaches zero" (R318, R320, R322, R324). -/
def bNotZero (s : State) : Bool := s.b != 0

/-! ## The meanings -/

/-- `out (*),a` (R313). -/
def exec_out_mn_a (n : Byte) (s : State) : Host.Outcome State Fault Refusal :=
  .next (s.portWrite n s.a)

/-- `in a,(*)` (R310). -/
def exec_in_a_mn (n : Byte) (s : State) : Host.Outcome State Fault Refusal :=
  .next (s.setReg8 .a (s.portRead n))

/-- `in b,(c)` (R311). -/
def exec_in_b_mc (s : State) : Host.Outcome State Fault Refusal :=
  inPort (some .b) s

/-- `out (c),b` (R314). -/
def exec_out_mc_b (s : State) : Host.Outcome State Fault Refusal :=
  outPort s.b s

/-- `in c,(c)` (R311). -/
def exec_in_c_mc (s : State) : Host.Outcome State Fault Refusal :=
  inPort (some .c) s

/-- `out (c),c` (R314). -/
def exec_out_mc_c (s : State) : Host.Outcome State Fault Refusal :=
  outPort s.c s

/-- `in d,(c)` (R311). -/
def exec_in_d_mc (s : State) : Host.Outcome State Fault Refusal :=
  inPort (some .d) s

/-- `out (c),d` (R314). -/
def exec_out_mc_d (s : State) : Host.Outcome State Fault Refusal :=
  outPort s.d s

/-- `in e,(c)` (R311). -/
def exec_in_e_mc (s : State) : Host.Outcome State Fault Refusal :=
  inPort (some .e) s

/-- `out (c),e` (R314). -/
def exec_out_mc_e (s : State) : Host.Outcome State Fault Refusal :=
  outPort s.e s

/-- `in h,(c)` (R311). -/
def exec_in_h_mc (s : State) : Host.Outcome State Fault Refusal :=
  inPort (some .h) s

/-- `out (c),h` (R314). -/
def exec_out_mc_h (s : State) : Host.Outcome State Fault Refusal :=
  outPort s.h s

/-- `in l,(c)` (R311). -/
def exec_in_l_mc (s : State) : Host.Outcome State Fault Refusal :=
  inPort (some .l) s

/-- `out (c),l` (R314). -/
def exec_out_mc_l (s : State) : Host.Outcome State Fault Refusal :=
  outPort s.l s

/-- `in (c)` (R312). -/
def exec_in_mc (s : State) : Host.Outcome State Fault Refusal :=
  inPort none s

/-- `out (c),0` (R315). -/
def exec_out_mc_0 (s : State) : Host.Outcome State Fault Refusal :=
  outPort 0 s

/-- `in a,(c)` (R311). -/
def exec_in_a_mc (s : State) : Host.Outcome State Fault Refusal :=
  inPort (some .a) s

/-- `out (c),a` (R314). -/
def exec_out_mc_a (s : State) : Host.Outcome State Fault Refusal :=
  outPort s.a s

/-- `ini` (R317). -/
def exec_ini (s : State) : Host.Outcome State Fault Refusal :=
  s.finish 2 (inStep .up s)

/-- `outi` (R321). -/
def exec_outi (s : State) : Host.Outcome State Fault Refusal :=
  s.finish 2 (outStep .up s)

/-- `ind` (R319). -/
def exec_ind (s : State) : Host.Outcome State Fault Refusal :=
  s.finish 2 (inStep .down s)

/-- `outd` (R323). -/
def exec_outd (s : State) : Host.Outcome State Fault Refusal :=
  s.finish 2 (outStep .down s)

/-- `inir` (R318). -/
def exec_inir (s : State) : Host.Outcome State Fault Refusal :=
  s.finish 2 (repeatBlock (inStep .up) bNotZero byteIterations s)

/-- `otir` (R322). -/
def exec_otir (s : State) : Host.Outcome State Fault Refusal :=
  s.finish 2 (repeatBlock (outStep .up) bNotZero byteIterations s)

/-- `indr` (R320). -/
def exec_indr (s : State) : Host.Outcome State Fault Refusal :=
  s.finish 2 (repeatBlock (inStep .down) bNotZero byteIterations s)

/-- `otdr` (R324). -/
def exec_otdr (s : State) : Host.Outcome State Fault Refusal :=
  s.finish 2 (repeatBlock (outStep .down) bNotZero byteIterations s)

end Sys2Proof.Machine
end

