-- ==== Sys2Proof/Machine/Load.lean ====
section
/-! DEFINITION. Load instructions (spec 40_load.md R120 to R145): the shared operations, then one meaning per
instruction. No load writes a flag except `ld a,i` and `ld a,r`. -/

namespace Sys2Proof.Machine

/-- `r <- r'` (R120). -/
def loadReg (dst src : Reg8) (s : State) : Host.Outcome State Fault Refusal :=
  .next (s.setReg8 dst (s.reg8 src))

/-- `r <- n` (R121). -/
def loadImm (dst : Reg8) (n : Byte) (s : State) : Host.Outcome State Fault Refusal :=
  .next (s.setReg8 dst n)

/-- `r <- MemRead(EA, 1)` (R122, R123, R128, R129). -/
def loadFromMem (len : Nat) (dst : Reg8) (loc : Loc) (s : State) : Host.Outcome State Fault Refusal :=
  s.finish len do
    let v ← s.loadLoc loc
    return s.setReg8 dst v

/-- `MemWrite(EA, 1, v)` of a byte read before (R124 to R127, R130, R131). -/
def storeToMem (len : Nat) (loc : Loc) (v : Byte) (s : State) : Host.Outcome State Fault Refusal :=
  s.finish len do
    let a ← s.effAddr loc
    s.memWrite a v

/-- `A <- v` with `S`, `Z` from `A`, `H = N = 0`, `PV = IFF2`, bits 5 and 3 from `A` (R132, R133). -/
def loadSpecial (v : Byte) (s : State) : Host.Outcome State Fault Refusal :=
  let x : Flags := { s.flags with s := v.getLsbD 7, z := v == 0, h := false, pv := s.iff2, n := false }
  .next ((s.setReg8 .a v).setFlags (x.bits53 v))

/-- `dd <- v` (R136, R137, R144, R145). -/
def loadPair (dst : Pair) (v : Word) (s : State) : Host.Outcome State Fault Refusal :=
  .next (s.setPair dst v)

/-- `dd <- MemRead(nn, 2)` (R138 to R140). -/
def loadPairFromMem (len : Nat) (dst : Pair) (nn : Word) (s : State) : Host.Outcome State Fault Refusal :=
  s.finish len do
    let v ← s.memRead16 nn
    return s.setPair dst v

/-- `MemWrite(nn, 2, dd)` (R141 to R143). -/
def storePairToMem (len : Nat) (nn : Word) (src : Pair) (s : State) : Host.Outcome State Fault Refusal :=
  s.finish len (s.memWrite16 nn (s.pair src))

/-! ## The meanings -/

/-- `ld bc,**` (R136). -/
def exec_ld_bc_nn (nn : Word) (s : State) : Host.Outcome State Fault Refusal :=
  loadPair .bc nn s

/-- `ld (bc),a` (R130). -/
def exec_ld_mbc_a (s : State) : Host.Outcome State Fault Refusal :=
  storeToMem 1 .bc s.a s

/-- `ld b,*` (R121). -/
def exec_ld_b_n (n : Byte) (s : State) : Host.Outcome State Fault Refusal :=
  loadImm .b n s

/-- `ld a,(bc)` (R128). -/
def exec_ld_a_mbc (s : State) : Host.Outcome State Fault Refusal :=
  loadFromMem 1 .a .bc s

/-- `ld c,*` (R121). -/
def exec_ld_c_n (n : Byte) (s : State) : Host.Outcome State Fault Refusal :=
  loadImm .c n s

/-- `ld de,**` (R136). -/
def exec_ld_de_nn (nn : Word) (s : State) : Host.Outcome State Fault Refusal :=
  loadPair .de nn s

/-- `ld (de),a` (R130). -/
def exec_ld_mde_a (s : State) : Host.Outcome State Fault Refusal :=
  storeToMem 1 .de s.a s

/-- `ld d,*` (R121). -/
def exec_ld_d_n (n : Byte) (s : State) : Host.Outcome State Fault Refusal :=
  loadImm .d n s

/-- `ld a,(de)` (R128). -/
def exec_ld_a_mde (s : State) : Host.Outcome State Fault Refusal :=
  loadFromMem 1 .a .de s

/-- `ld e,*` (R121). -/
def exec_ld_e_n (n : Byte) (s : State) : Host.Outcome State Fault Refusal :=
  loadImm .e n s

/-- `ld hl,**` (R136). -/
def exec_ld_hl_nn (nn : Word) (s : State) : Host.Outcome State Fault Refusal :=
  loadPair .hl nn s

/-- `ld (**),hl` (R141). -/
def exec_ld_mnn_hl (ed : Bool) (nn : Word) (s : State) : Host.Outcome State Fault Refusal :=
  storePairToMem (if ed then 4 else 3) nn .hl s

/-- `ld h,*` (R121). -/
def exec_ld_h_n (n : Byte) (s : State) : Host.Outcome State Fault Refusal :=
  loadImm .h n s

/-- `ld hl,(**)` (R138). -/
def exec_ld_hl_mnn (ed : Bool) (nn : Word) (s : State) : Host.Outcome State Fault Refusal :=
  loadPairFromMem (if ed then 4 else 3) .hl nn s

/-- `ld l,*` (R121). -/
def exec_ld_l_n (n : Byte) (s : State) : Host.Outcome State Fault Refusal :=
  loadImm .l n s

/-- `ld sp,**` (R136). -/
def exec_ld_sp_nn (nn : Word) (s : State) : Host.Outcome State Fault Refusal :=
  loadPair .sp nn s

/-- `ld (**),a` (R131). -/
def exec_ld_mnn_a (nn : Word) (s : State) : Host.Outcome State Fault Refusal :=
  storeToMem 3 (.ext nn) s.a s

/-- `ld (hl),*` (R126). -/
def exec_ld_mhl_n (n : Byte) (s : State) : Host.Outcome State Fault Refusal :=
  storeToMem 2 .hl n s

/-- `ld a,(**)` (R129). -/
def exec_ld_a_mnn (nn : Word) (s : State) : Host.Outcome State Fault Refusal :=
  loadFromMem 3 .a (.ext nn) s

/-- `ld a,*` (R121). -/
def exec_ld_a_n (n : Byte) (s : State) : Host.Outcome State Fault Refusal :=
  loadImm .a n s

/-- `ld b,b` (R120). -/
def exec_ld_b_b (s : State) : Host.Outcome State Fault Refusal :=
  loadReg .b .b s

/-- `ld b,c` (R120). -/
def exec_ld_b_c (s : State) : Host.Outcome State Fault Refusal :=
  loadReg .b .c s

/-- `ld b,d` (R120). -/
def exec_ld_b_d (s : State) : Host.Outcome State Fault Refusal :=
  loadReg .b .d s

/-- `ld b,e` (R120). -/
def exec_ld_b_e (s : State) : Host.Outcome State Fault Refusal :=
  loadReg .b .e s

/-- `ld b,h` (R120). -/
def exec_ld_b_h (s : State) : Host.Outcome State Fault Refusal :=
  loadReg .b .h s

/-- `ld b,l` (R120). -/
def exec_ld_b_l (s : State) : Host.Outcome State Fault Refusal :=
  loadReg .b .l s

/-- `ld b,(hl)` (R122). -/
def exec_ld_b_mhl (s : State) : Host.Outcome State Fault Refusal :=
  loadFromMem 1 .b .hl s

/-- `ld b,a` (R120). -/
def exec_ld_b_a (s : State) : Host.Outcome State Fault Refusal :=
  loadReg .b .a s

/-- `ld c,b` (R120). -/
def exec_ld_c_b (s : State) : Host.Outcome State Fault Refusal :=
  loadReg .c .b s

/-- `ld c,c` (R120). -/
def exec_ld_c_c (s : State) : Host.Outcome State Fault Refusal :=
  loadReg .c .c s

/-- `ld c,d` (R120). -/
def exec_ld_c_d (s : State) : Host.Outcome State Fault Refusal :=
  loadReg .c .d s

/-- `ld c,e` (R120). -/
def exec_ld_c_e (s : State) : Host.Outcome State Fault Refusal :=
  loadReg .c .e s

/-- `ld c,h` (R120). -/
def exec_ld_c_h (s : State) : Host.Outcome State Fault Refusal :=
  loadReg .c .h s

/-- `ld c,l` (R120). -/
def exec_ld_c_l (s : State) : Host.Outcome State Fault Refusal :=
  loadReg .c .l s

/-- `ld c,(hl)` (R122). -/
def exec_ld_c_mhl (s : State) : Host.Outcome State Fault Refusal :=
  loadFromMem 1 .c .hl s

/-- `ld c,a` (R120). -/
def exec_ld_c_a (s : State) : Host.Outcome State Fault Refusal :=
  loadReg .c .a s

/-- `ld d,b` (R120). -/
def exec_ld_d_b (s : State) : Host.Outcome State Fault Refusal :=
  loadReg .d .b s

/-- `ld d,c` (R120). -/
def exec_ld_d_c (s : State) : Host.Outcome State Fault Refusal :=
  loadReg .d .c s

/-- `ld d,d` (R120). -/
def exec_ld_d_d (s : State) : Host.Outcome State Fault Refusal :=
  loadReg .d .d s

/-- `ld d,e` (R120). -/
def exec_ld_d_e (s : State) : Host.Outcome State Fault Refusal :=
  loadReg .d .e s

/-- `ld d,h` (R120). -/
def exec_ld_d_h (s : State) : Host.Outcome State Fault Refusal :=
  loadReg .d .h s

/-- `ld d,l` (R120). -/
def exec_ld_d_l (s : State) : Host.Outcome State Fault Refusal :=
  loadReg .d .l s

/-- `ld d,(hl)` (R122). -/
def exec_ld_d_mhl (s : State) : Host.Outcome State Fault Refusal :=
  loadFromMem 1 .d .hl s

/-- `ld d,a` (R120). -/
def exec_ld_d_a (s : State) : Host.Outcome State Fault Refusal :=
  loadReg .d .a s

/-- `ld e,b` (R120). -/
def exec_ld_e_b (s : State) : Host.Outcome State Fault Refusal :=
  loadReg .e .b s

/-- `ld e,c` (R120). -/
def exec_ld_e_c (s : State) : Host.Outcome State Fault Refusal :=
  loadReg .e .c s

/-- `ld e,d` (R120). -/
def exec_ld_e_d (s : State) : Host.Outcome State Fault Refusal :=
  loadReg .e .d s

/-- `ld e,e` (R120). -/
def exec_ld_e_e (s : State) : Host.Outcome State Fault Refusal :=
  loadReg .e .e s

/-- `ld e,h` (R120). -/
def exec_ld_e_h (s : State) : Host.Outcome State Fault Refusal :=
  loadReg .e .h s

/-- `ld e,l` (R120). -/
def exec_ld_e_l (s : State) : Host.Outcome State Fault Refusal :=
  loadReg .e .l s

/-- `ld e,(hl)` (R122). -/
def exec_ld_e_mhl (s : State) : Host.Outcome State Fault Refusal :=
  loadFromMem 1 .e .hl s

/-- `ld e,a` (R120). -/
def exec_ld_e_a (s : State) : Host.Outcome State Fault Refusal :=
  loadReg .e .a s

/-- `ld h,b` (R120). -/
def exec_ld_h_b (s : State) : Host.Outcome State Fault Refusal :=
  loadReg .h .b s

/-- `ld h,c` (R120). -/
def exec_ld_h_c (s : State) : Host.Outcome State Fault Refusal :=
  loadReg .h .c s

/-- `ld h,d` (R120). -/
def exec_ld_h_d (s : State) : Host.Outcome State Fault Refusal :=
  loadReg .h .d s

/-- `ld h,e` (R120). -/
def exec_ld_h_e (s : State) : Host.Outcome State Fault Refusal :=
  loadReg .h .e s

/-- `ld h,h` (R120). -/
def exec_ld_h_h (s : State) : Host.Outcome State Fault Refusal :=
  loadReg .h .h s

/-- `ld h,l` (R120). -/
def exec_ld_h_l (s : State) : Host.Outcome State Fault Refusal :=
  loadReg .h .l s

/-- `ld h,(hl)` (R122). -/
def exec_ld_h_mhl (s : State) : Host.Outcome State Fault Refusal :=
  loadFromMem 1 .h .hl s

/-- `ld h,a` (R120). -/
def exec_ld_h_a (s : State) : Host.Outcome State Fault Refusal :=
  loadReg .h .a s

/-- `ld l,b` (R120). -/
def exec_ld_l_b (s : State) : Host.Outcome State Fault Refusal :=
  loadReg .l .b s

/-- `ld l,c` (R120). -/
def exec_ld_l_c (s : State) : Host.Outcome State Fault Refusal :=
  loadReg .l .c s

/-- `ld l,d` (R120). -/
def exec_ld_l_d (s : State) : Host.Outcome State Fault Refusal :=
  loadReg .l .d s

/-- `ld l,e` (R120). -/
def exec_ld_l_e (s : State) : Host.Outcome State Fault Refusal :=
  loadReg .l .e s

/-- `ld l,h` (R120). -/
def exec_ld_l_h (s : State) : Host.Outcome State Fault Refusal :=
  loadReg .l .h s

/-- `ld l,l` (R120). -/
def exec_ld_l_l (s : State) : Host.Outcome State Fault Refusal :=
  loadReg .l .l s

/-- `ld l,(hl)` (R122). -/
def exec_ld_l_mhl (s : State) : Host.Outcome State Fault Refusal :=
  loadFromMem 1 .l .hl s

/-- `ld l,a` (R120). -/
def exec_ld_l_a (s : State) : Host.Outcome State Fault Refusal :=
  loadReg .l .a s

/-- `ld (hl),b` (R124). -/
def exec_ld_mhl_b (s : State) : Host.Outcome State Fault Refusal :=
  storeToMem 1 .hl s.b s

/-- `ld (hl),c` (R124). -/
def exec_ld_mhl_c (s : State) : Host.Outcome State Fault Refusal :=
  storeToMem 1 .hl s.c s

/-- `ld (hl),d` (R124). -/
def exec_ld_mhl_d (s : State) : Host.Outcome State Fault Refusal :=
  storeToMem 1 .hl s.d s

/-- `ld (hl),e` (R124). -/
def exec_ld_mhl_e (s : State) : Host.Outcome State Fault Refusal :=
  storeToMem 1 .hl s.e s

/-- `ld (hl),h` (R124). -/
def exec_ld_mhl_h (s : State) : Host.Outcome State Fault Refusal :=
  storeToMem 1 .hl s.h s

/-- `ld (hl),l` (R124). -/
def exec_ld_mhl_l (s : State) : Host.Outcome State Fault Refusal :=
  storeToMem 1 .hl s.l s

/-- `ld (hl),a` (R124). -/
def exec_ld_mhl_a (s : State) : Host.Outcome State Fault Refusal :=
  storeToMem 1 .hl s.a s

/-- `ld a,b` (R120). -/
def exec_ld_a_b (s : State) : Host.Outcome State Fault Refusal :=
  loadReg .a .b s

/-- `ld a,c` (R120). -/
def exec_ld_a_c (s : State) : Host.Outcome State Fault Refusal :=
  loadReg .a .c s

/-- `ld a,d` (R120). -/
def exec_ld_a_d (s : State) : Host.Outcome State Fault Refusal :=
  loadReg .a .d s

/-- `ld a,e` (R120). -/
def exec_ld_a_e (s : State) : Host.Outcome State Fault Refusal :=
  loadReg .a .e s

/-- `ld a,h` (R120). -/
def exec_ld_a_h (s : State) : Host.Outcome State Fault Refusal :=
  loadReg .a .h s

/-- `ld a,l` (R120). -/
def exec_ld_a_l (s : State) : Host.Outcome State Fault Refusal :=
  loadReg .a .l s

/-- `ld a,(hl)` (R122). -/
def exec_ld_a_mhl (s : State) : Host.Outcome State Fault Refusal :=
  loadFromMem 1 .a .hl s

/-- `ld a,a` (R120). -/
def exec_ld_a_a (s : State) : Host.Outcome State Fault Refusal :=
  loadReg .a .a s

/-- `ld sp,hl` (R144). -/
def exec_ld_sp_hl (s : State) : Host.Outcome State Fault Refusal :=
  loadPair .sp (s.pair .hl) s

/-- `ld (**),bc` (R142). -/
def exec_ld_mnn_bc (nn : Word) (s : State) : Host.Outcome State Fault Refusal :=
  storePairToMem 4 nn .bc s

/-- `ld i,a` (R134). -/
def exec_ld_i_a (s : State) : Host.Outcome State Fault Refusal :=
  .next { s with i := s.a }

/-- `ld bc,(**)` (R139). -/
def exec_ld_bc_mnn (nn : Word) (s : State) : Host.Outcome State Fault Refusal :=
  loadPairFromMem 4 .bc nn s

/-- `ld r,a` (R135). -/
def exec_ld_r_a (s : State) : Host.Outcome State Fault Refusal :=
  .next { s with r := s.a }

/-- `ld (**),de` (R142). -/
def exec_ld_mnn_de (nn : Word) (s : State) : Host.Outcome State Fault Refusal :=
  storePairToMem 4 nn .de s

/-- `ld a,i` (R132). -/
def exec_ld_a_i (s : State) : Host.Outcome State Fault Refusal :=
  loadSpecial s.i s

/-- `ld de,(**)` (R139). -/
def exec_ld_de_mnn (nn : Word) (s : State) : Host.Outcome State Fault Refusal :=
  loadPairFromMem 4 .de nn s

/-- `ld a,r` (R133). -/
def exec_ld_a_r (s : State) : Host.Outcome State Fault Refusal :=
  loadSpecial s.r s

/-- `ld (**),sp` (R142). -/
def exec_ld_mnn_sp (nn : Word) (s : State) : Host.Outcome State Fault Refusal :=
  storePairToMem 4 nn .sp s

/-- `ld sp,(**)` (R139). -/
def exec_ld_sp_mnn (nn : Word) (s : State) : Host.Outcome State Fault Refusal :=
  loadPairFromMem 4 .sp nn s

/-- `ld ix,**` (R137). -/
def exec_ld_ix_nn (nn : Word) (s : State) : Host.Outcome State Fault Refusal :=
  loadPair .ix nn s

/-- `ld (**),ix` (R143). -/
def exec_ld_mnn_ix (nn : Word) (s : State) : Host.Outcome State Fault Refusal :=
  storePairToMem 4 nn .ix s

/-- `ld ixh,*` (R121). -/
def exec_ld_ixh_n (n : Byte) (s : State) : Host.Outcome State Fault Refusal :=
  loadImm .ixh n s

/-- `ld ix,(**)` (R140). -/
def exec_ld_ix_mnn (nn : Word) (s : State) : Host.Outcome State Fault Refusal :=
  loadPairFromMem 4 .ix nn s

/-- `ld ixl,*` (R121). -/
def exec_ld_ixl_n (n : Byte) (s : State) : Host.Outcome State Fault Refusal :=
  loadImm .ixl n s

/-- `ld (ix+*),*` (R127). -/
def exec_ld_mixd_n (d : Byte) (n : Byte) (s : State) : Host.Outcome State Fault Refusal :=
  storeToMem 4 (.idx .ix d) n s

/-- `ld b,ixh` (R120). -/
def exec_ld_b_ixh (s : State) : Host.Outcome State Fault Refusal :=
  loadReg .b .ixh s

/-- `ld b,ixl` (R120). -/
def exec_ld_b_ixl (s : State) : Host.Outcome State Fault Refusal :=
  loadReg .b .ixl s

/-- `ld b,(ix+*)` (R123). -/
def exec_ld_b_mixd (d : Byte) (s : State) : Host.Outcome State Fault Refusal :=
  loadFromMem 3 .b (.idx .ix d) s

/-- `ld c,ixh` (R120). -/
def exec_ld_c_ixh (s : State) : Host.Outcome State Fault Refusal :=
  loadReg .c .ixh s

/-- `ld c,ixl` (R120). -/
def exec_ld_c_ixl (s : State) : Host.Outcome State Fault Refusal :=
  loadReg .c .ixl s

/-- `ld c,(ix+*)` (R123). -/
def exec_ld_c_mixd (d : Byte) (s : State) : Host.Outcome State Fault Refusal :=
  loadFromMem 3 .c (.idx .ix d) s

/-- `ld d,ixh` (R120). -/
def exec_ld_d_ixh (s : State) : Host.Outcome State Fault Refusal :=
  loadReg .d .ixh s

/-- `ld d,ixl` (R120). -/
def exec_ld_d_ixl (s : State) : Host.Outcome State Fault Refusal :=
  loadReg .d .ixl s

/-- `ld d,(ix+*)` (R123). -/
def exec_ld_d_mixd (d : Byte) (s : State) : Host.Outcome State Fault Refusal :=
  loadFromMem 3 .d (.idx .ix d) s

/-- `ld e,ixh` (R120). -/
def exec_ld_e_ixh (s : State) : Host.Outcome State Fault Refusal :=
  loadReg .e .ixh s

/-- `ld e,ixl` (R120). -/
def exec_ld_e_ixl (s : State) : Host.Outcome State Fault Refusal :=
  loadReg .e .ixl s

/-- `ld e,(ix+*)` (R123). -/
def exec_ld_e_mixd (d : Byte) (s : State) : Host.Outcome State Fault Refusal :=
  loadFromMem 3 .e (.idx .ix d) s

/-- `ld ixh,b` (R120). -/
def exec_ld_ixh_b (s : State) : Host.Outcome State Fault Refusal :=
  loadReg .ixh .b s

/-- `ld ixh,c` (R120). -/
def exec_ld_ixh_c (s : State) : Host.Outcome State Fault Refusal :=
  loadReg .ixh .c s

/-- `ld ixh,d` (R120). -/
def exec_ld_ixh_d (s : State) : Host.Outcome State Fault Refusal :=
  loadReg .ixh .d s

/-- `ld ixh,e` (R120). -/
def exec_ld_ixh_e (s : State) : Host.Outcome State Fault Refusal :=
  loadReg .ixh .e s

/-- `ld ixh,ixh` (R120). -/
def exec_ld_ixh_ixh (s : State) : Host.Outcome State Fault Refusal :=
  loadReg .ixh .ixh s

/-- `ld ixh,ixl` (R120). -/
def exec_ld_ixh_ixl (s : State) : Host.Outcome State Fault Refusal :=
  loadReg .ixh .ixl s

/-- `ld h,(ix+*)` (R123). -/
def exec_ld_h_mixd (d : Byte) (s : State) : Host.Outcome State Fault Refusal :=
  loadFromMem 3 .h (.idx .ix d) s

/-- `ld ixh,a` (R120). -/
def exec_ld_ixh_a (s : State) : Host.Outcome State Fault Refusal :=
  loadReg .ixh .a s

/-- `ld ixl,b` (R120). -/
def exec_ld_ixl_b (s : State) : Host.Outcome State Fault Refusal :=
  loadReg .ixl .b s

/-- `ld ixl,c` (R120). -/
def exec_ld_ixl_c (s : State) : Host.Outcome State Fault Refusal :=
  loadReg .ixl .c s

/-- `ld ixl,d` (R120). -/
def exec_ld_ixl_d (s : State) : Host.Outcome State Fault Refusal :=
  loadReg .ixl .d s

/-- `ld ixl,e` (R120). -/
def exec_ld_ixl_e (s : State) : Host.Outcome State Fault Refusal :=
  loadReg .ixl .e s

/-- `ld ixl,ixh` (R120). -/
def exec_ld_ixl_ixh (s : State) : Host.Outcome State Fault Refusal :=
  loadReg .ixl .ixh s

/-- `ld ixl,ixl` (R120). -/
def exec_ld_ixl_ixl (s : State) : Host.Outcome State Fault Refusal :=
  loadReg .ixl .ixl s

/-- `ld l,(ix+*)` (R123). -/
def exec_ld_l_mixd (d : Byte) (s : State) : Host.Outcome State Fault Refusal :=
  loadFromMem 3 .l (.idx .ix d) s

/-- `ld ixl,a` (R120). -/
def exec_ld_ixl_a (s : State) : Host.Outcome State Fault Refusal :=
  loadReg .ixl .a s

/-- `ld (ix+*),b` (R125). -/
def exec_ld_mixd_b (d : Byte) (s : State) : Host.Outcome State Fault Refusal :=
  storeToMem 3 (.idx .ix d) s.b s

/-- `ld (ix+*),c` (R125). -/
def exec_ld_mixd_c (d : Byte) (s : State) : Host.Outcome State Fault Refusal :=
  storeToMem 3 (.idx .ix d) s.c s

/-- `ld (ix+*),d` (R125). -/
def exec_ld_mixd_d (d : Byte) (s : State) : Host.Outcome State Fault Refusal :=
  storeToMem 3 (.idx .ix d) s.d s

/-- `ld (ix+*),e` (R125). -/
def exec_ld_mixd_e (d : Byte) (s : State) : Host.Outcome State Fault Refusal :=
  storeToMem 3 (.idx .ix d) s.e s

/-- `ld (ix+*),h` (R125). -/
def exec_ld_mixd_h (d : Byte) (s : State) : Host.Outcome State Fault Refusal :=
  storeToMem 3 (.idx .ix d) s.h s

/-- `ld (ix+*),l` (R125). -/
def exec_ld_mixd_l (d : Byte) (s : State) : Host.Outcome State Fault Refusal :=
  storeToMem 3 (.idx .ix d) s.l s

/-- `ld (ix+*),a` (R125). -/
def exec_ld_mixd_a (d : Byte) (s : State) : Host.Outcome State Fault Refusal :=
  storeToMem 3 (.idx .ix d) s.a s

/-- `ld a,ixh` (R120). -/
def exec_ld_a_ixh (s : State) : Host.Outcome State Fault Refusal :=
  loadReg .a .ixh s

/-- `ld a,ixl` (R120). -/
def exec_ld_a_ixl (s : State) : Host.Outcome State Fault Refusal :=
  loadReg .a .ixl s

/-- `ld a,(ix+*)` (R123). -/
def exec_ld_a_mixd (d : Byte) (s : State) : Host.Outcome State Fault Refusal :=
  loadFromMem 3 .a (.idx .ix d) s

/-- `ld sp,ix` (R145). -/
def exec_ld_sp_ix (s : State) : Host.Outcome State Fault Refusal :=
  loadPair .sp (s.pair .ix) s

/-- `ld iy,**` (R137). -/
def exec_ld_iy_nn (nn : Word) (s : State) : Host.Outcome State Fault Refusal :=
  loadPair .iy nn s

/-- `ld (**),iy` (R143). -/
def exec_ld_mnn_iy (nn : Word) (s : State) : Host.Outcome State Fault Refusal :=
  storePairToMem 4 nn .iy s

/-- `ld iyh,*` (R121). -/
def exec_ld_iyh_n (n : Byte) (s : State) : Host.Outcome State Fault Refusal :=
  loadImm .iyh n s

/-- `ld iy,(**)` (R140). -/
def exec_ld_iy_mnn (nn : Word) (s : State) : Host.Outcome State Fault Refusal :=
  loadPairFromMem 4 .iy nn s

/-- `ld iyl,*` (R121). -/
def exec_ld_iyl_n (n : Byte) (s : State) : Host.Outcome State Fault Refusal :=
  loadImm .iyl n s

/-- `ld (iy+*),*` (R127). -/
def exec_ld_miyd_n (d : Byte) (n : Byte) (s : State) : Host.Outcome State Fault Refusal :=
  storeToMem 4 (.idx .iy d) n s

/-- `ld b,iyh` (R120). -/
def exec_ld_b_iyh (s : State) : Host.Outcome State Fault Refusal :=
  loadReg .b .iyh s

/-- `ld b,iyl` (R120). -/
def exec_ld_b_iyl (s : State) : Host.Outcome State Fault Refusal :=
  loadReg .b .iyl s

/-- `ld b,(iy+*)` (R123). -/
def exec_ld_b_miyd (d : Byte) (s : State) : Host.Outcome State Fault Refusal :=
  loadFromMem 3 .b (.idx .iy d) s

/-- `ld c,iyh` (R120). -/
def exec_ld_c_iyh (s : State) : Host.Outcome State Fault Refusal :=
  loadReg .c .iyh s

/-- `ld c,iyl` (R120). -/
def exec_ld_c_iyl (s : State) : Host.Outcome State Fault Refusal :=
  loadReg .c .iyl s

/-- `ld c,(iy+*)` (R123). -/
def exec_ld_c_miyd (d : Byte) (s : State) : Host.Outcome State Fault Refusal :=
  loadFromMem 3 .c (.idx .iy d) s

/-- `ld d,iyh` (R120). -/
def exec_ld_d_iyh (s : State) : Host.Outcome State Fault Refusal :=
  loadReg .d .iyh s

/-- `ld d,iyl` (R120). -/
def exec_ld_d_iyl (s : State) : Host.Outcome State Fault Refusal :=
  loadReg .d .iyl s

/-- `ld d,(iy+*)` (R123). -/
def exec_ld_d_miyd (d : Byte) (s : State) : Host.Outcome State Fault Refusal :=
  loadFromMem 3 .d (.idx .iy d) s

/-- `ld e,iyh` (R120). -/
def exec_ld_e_iyh (s : State) : Host.Outcome State Fault Refusal :=
  loadReg .e .iyh s

/-- `ld e,iyl` (R120). -/
def exec_ld_e_iyl (s : State) : Host.Outcome State Fault Refusal :=
  loadReg .e .iyl s

/-- `ld e,(iy+*)` (R123). -/
def exec_ld_e_miyd (d : Byte) (s : State) : Host.Outcome State Fault Refusal :=
  loadFromMem 3 .e (.idx .iy d) s

/-- `ld iyh,b` (R120). -/
def exec_ld_iyh_b (s : State) : Host.Outcome State Fault Refusal :=
  loadReg .iyh .b s

/-- `ld iyh,c` (R120). -/
def exec_ld_iyh_c (s : State) : Host.Outcome State Fault Refusal :=
  loadReg .iyh .c s

/-- `ld iyh,d` (R120). -/
def exec_ld_iyh_d (s : State) : Host.Outcome State Fault Refusal :=
  loadReg .iyh .d s

/-- `ld iyh,e` (R120). -/
def exec_ld_iyh_e (s : State) : Host.Outcome State Fault Refusal :=
  loadReg .iyh .e s

/-- `ld iyh,iyh` (R120). -/
def exec_ld_iyh_iyh (s : State) : Host.Outcome State Fault Refusal :=
  loadReg .iyh .iyh s

/-- `ld iyh,iyl` (R120). -/
def exec_ld_iyh_iyl (s : State) : Host.Outcome State Fault Refusal :=
  loadReg .iyh .iyl s

/-- `ld h,(iy+*)` (R123). -/
def exec_ld_h_miyd (d : Byte) (s : State) : Host.Outcome State Fault Refusal :=
  loadFromMem 3 .h (.idx .iy d) s

/-- `ld iyh,a` (R120). -/
def exec_ld_iyh_a (s : State) : Host.Outcome State Fault Refusal :=
  loadReg .iyh .a s

/-- `ld iyl,b` (R120). -/
def exec_ld_iyl_b (s : State) : Host.Outcome State Fault Refusal :=
  loadReg .iyl .b s

/-- `ld iyl,c` (R120). -/
def exec_ld_iyl_c (s : State) : Host.Outcome State Fault Refusal :=
  loadReg .iyl .c s

/-- `ld iyl,d` (R120). -/
def exec_ld_iyl_d (s : State) : Host.Outcome State Fault Refusal :=
  loadReg .iyl .d s

/-- `ld iyl,e` (R120). -/
def exec_ld_iyl_e (s : State) : Host.Outcome State Fault Refusal :=
  loadReg .iyl .e s

/-- `ld iyl,iyh` (R120). -/
def exec_ld_iyl_iyh (s : State) : Host.Outcome State Fault Refusal :=
  loadReg .iyl .iyh s

/-- `ld iyl,iyl` (R120). -/
def exec_ld_iyl_iyl (s : State) : Host.Outcome State Fault Refusal :=
  loadReg .iyl .iyl s

/-- `ld l,(iy+*)` (R123). -/
def exec_ld_l_miyd (d : Byte) (s : State) : Host.Outcome State Fault Refusal :=
  loadFromMem 3 .l (.idx .iy d) s

/-- `ld iyl,a` (R120). -/
def exec_ld_iyl_a (s : State) : Host.Outcome State Fault Refusal :=
  loadReg .iyl .a s

/-- `ld (iy+*),b` (R125). -/
def exec_ld_miyd_b (d : Byte) (s : State) : Host.Outcome State Fault Refusal :=
  storeToMem 3 (.idx .iy d) s.b s

/-- `ld (iy+*),c` (R125). -/
def exec_ld_miyd_c (d : Byte) (s : State) : Host.Outcome State Fault Refusal :=
  storeToMem 3 (.idx .iy d) s.c s

/-- `ld (iy+*),d` (R125). -/
def exec_ld_miyd_d (d : Byte) (s : State) : Host.Outcome State Fault Refusal :=
  storeToMem 3 (.idx .iy d) s.d s

/-- `ld (iy+*),e` (R125). -/
def exec_ld_miyd_e (d : Byte) (s : State) : Host.Outcome State Fault Refusal :=
  storeToMem 3 (.idx .iy d) s.e s

/-- `ld (iy+*),h` (R125). -/
def exec_ld_miyd_h (d : Byte) (s : State) : Host.Outcome State Fault Refusal :=
  storeToMem 3 (.idx .iy d) s.h s

/-- `ld (iy+*),l` (R125). -/
def exec_ld_miyd_l (d : Byte) (s : State) : Host.Outcome State Fault Refusal :=
  storeToMem 3 (.idx .iy d) s.l s

/-- `ld (iy+*),a` (R125). -/
def exec_ld_miyd_a (d : Byte) (s : State) : Host.Outcome State Fault Refusal :=
  storeToMem 3 (.idx .iy d) s.a s

/-- `ld a,iyh` (R120). -/
def exec_ld_a_iyh (s : State) : Host.Outcome State Fault Refusal :=
  loadReg .a .iyh s

/-- `ld a,iyl` (R120). -/
def exec_ld_a_iyl (s : State) : Host.Outcome State Fault Refusal :=
  loadReg .a .iyl s

/-- `ld a,(iy+*)` (R123). -/
def exec_ld_a_miyd (d : Byte) (s : State) : Host.Outcome State Fault Refusal :=
  loadFromMem 3 .a (.idx .iy d) s

/-- `ld sp,iy` (R145). -/
def exec_ld_sp_iy (s : State) : Host.Outcome State Fault Refusal :=
  loadPair .sp (s.pair .iy) s

end Sys2Proof.Machine
end

