-- ==== Sys2Proof/Machine/LogicControl.lean ====
section
/-! DEFINITION. Logic, accumulator and CPU-control instructions (spec 46_logic_control.md R260 to R272). -/

namespace Sys2Proof.Machine

/-- `A <- A op s` with `S`, `Z`, `PV = Parity(A)` from `A`, `H` as given, `N = C = 0`, bits 5 and 3 from `A`
(R262 to R264). -/
def logicA (len : Nat) (op : Byte → Byte → Byte) (half : Bool) (src : Src8) (s : State) :
    Host.Outcome State Fault Refusal :=
  s.finish len do
    let v ← s.src8 src
    let res := op s.a v
    let x : Flags := { s.flags.commitSZP res with h := half, c := false }
    return (s.setReg8 .a res).setFlags x

/-- The result, `H` and `C` of `daa` from `A` and the flags (R265). -/
def daaAdjust (a : Byte) (x : Flags) : Byte × Bool × Bool :=
  let lo := a.toNat % 16
  let fixLow := x.h || decide (lo > 9)
  let fixHigh := x.c || decide (a.toNat > 0x99)
  let corr : Byte := (if fixLow then 0x06#8 else 0#8) ||| (if fixHigh then 0x60#8 else 0#8)
  if x.n then (a - corr, x.h && decide (lo < 6), fixHigh)
  else (a + corr, decide (lo > 9), fixHigh)

/-! ## The meanings -/

/-- `nop` (R268). -/
def exec_nop (s : State) : Host.Outcome State Fault Refusal :=
  .next s

/-- `daa` (R265). -/
def exec_daa (s : State) : Host.Outcome State Fault Refusal :=
  let o := daaAdjust s.a s.flags
  let x : Flags :=
    { s.flags with s := o.1.getLsbD 7, z := o.1 == 0, h := o.2.1, pv := parity o.1, c := o.2.2 }
  .next ((s.setReg8 .a o.1).setFlags (x.bits53 o.1))

/-- `cpl` (R260). -/
def exec_cpl (s : State) : Host.Outcome State Fault Refusal :=
  let a := 255#8 - s.a
  let x : Flags := { s.flags with h := true, n := true }
  .next ((s.setReg8 .a a).setFlags (x.bits53 a))

/-- `scf` (R267). -/
def exec_scf (s : State) : Host.Outcome State Fault Refusal :=
  let x : Flags := { s.flags with h := false, n := false, c := true }
  .next (s.setFlags (x.bits53 s.a))

/-- `ccf` (R266). -/
def exec_ccf (s : State) : Host.Outcome State Fault Refusal :=
  let x : Flags := { s.flags with h := s.flags.c, n := false, c := !s.flags.c }
  .next (s.setFlags (x.bits53 s.a))

/-- `halt` (R269). -/
def exec_halt (s : State) : Host.Outcome State Fault Refusal :=
  .next { s with status := .halted }

/-- `and b` (R262). -/
def exec_and_b (s : State) : Host.Outcome State Fault Refusal :=
  logicA 1 (· &&& ·) true (.reg .b) s

/-- `and c` (R262). -/
def exec_and_c (s : State) : Host.Outcome State Fault Refusal :=
  logicA 1 (· &&& ·) true (.reg .c) s

/-- `and d` (R262). -/
def exec_and_d (s : State) : Host.Outcome State Fault Refusal :=
  logicA 1 (· &&& ·) true (.reg .d) s

/-- `and e` (R262). -/
def exec_and_e (s : State) : Host.Outcome State Fault Refusal :=
  logicA 1 (· &&& ·) true (.reg .e) s

/-- `and h` (R262). -/
def exec_and_h (s : State) : Host.Outcome State Fault Refusal :=
  logicA 1 (· &&& ·) true (.reg .h) s

/-- `and l` (R262). -/
def exec_and_l (s : State) : Host.Outcome State Fault Refusal :=
  logicA 1 (· &&& ·) true (.reg .l) s

/-- `and (hl)` (R262). -/
def exec_and_mhl (s : State) : Host.Outcome State Fault Refusal :=
  logicA 1 (· &&& ·) true (.mem .hl) s

/-- `and a` (R262). -/
def exec_and_a (s : State) : Host.Outcome State Fault Refusal :=
  logicA 1 (· &&& ·) true (.reg .a) s

/-- `xor b` (R264). -/
def exec_xor_b (s : State) : Host.Outcome State Fault Refusal :=
  logicA 1 (· ^^^ ·) false (.reg .b) s

/-- `xor c` (R264). -/
def exec_xor_c (s : State) : Host.Outcome State Fault Refusal :=
  logicA 1 (· ^^^ ·) false (.reg .c) s

/-- `xor d` (R264). -/
def exec_xor_d (s : State) : Host.Outcome State Fault Refusal :=
  logicA 1 (· ^^^ ·) false (.reg .d) s

/-- `xor e` (R264). -/
def exec_xor_e (s : State) : Host.Outcome State Fault Refusal :=
  logicA 1 (· ^^^ ·) false (.reg .e) s

/-- `xor h` (R264). -/
def exec_xor_h (s : State) : Host.Outcome State Fault Refusal :=
  logicA 1 (· ^^^ ·) false (.reg .h) s

/-- `xor l` (R264). -/
def exec_xor_l (s : State) : Host.Outcome State Fault Refusal :=
  logicA 1 (· ^^^ ·) false (.reg .l) s

/-- `xor (hl)` (R264). -/
def exec_xor_mhl (s : State) : Host.Outcome State Fault Refusal :=
  logicA 1 (· ^^^ ·) false (.mem .hl) s

/-- `xor a` (R264). -/
def exec_xor_a (s : State) : Host.Outcome State Fault Refusal :=
  logicA 1 (· ^^^ ·) false (.reg .a) s

/-- `or b` (R263). -/
def exec_or_b (s : State) : Host.Outcome State Fault Refusal :=
  logicA 1 (· ||| ·) false (.reg .b) s

/-- `or c` (R263). -/
def exec_or_c (s : State) : Host.Outcome State Fault Refusal :=
  logicA 1 (· ||| ·) false (.reg .c) s

/-- `or d` (R263). -/
def exec_or_d (s : State) : Host.Outcome State Fault Refusal :=
  logicA 1 (· ||| ·) false (.reg .d) s

/-- `or e` (R263). -/
def exec_or_e (s : State) : Host.Outcome State Fault Refusal :=
  logicA 1 (· ||| ·) false (.reg .e) s

/-- `or h` (R263). -/
def exec_or_h (s : State) : Host.Outcome State Fault Refusal :=
  logicA 1 (· ||| ·) false (.reg .h) s

/-- `or l` (R263). -/
def exec_or_l (s : State) : Host.Outcome State Fault Refusal :=
  logicA 1 (· ||| ·) false (.reg .l) s

/-- `or (hl)` (R263). -/
def exec_or_mhl (s : State) : Host.Outcome State Fault Refusal :=
  logicA 1 (· ||| ·) false (.mem .hl) s

/-- `or a` (R263). -/
def exec_or_a (s : State) : Host.Outcome State Fault Refusal :=
  logicA 1 (· ||| ·) false (.reg .a) s

/-- `and *` (R262). -/
def exec_and_n (n : Byte) (s : State) : Host.Outcome State Fault Refusal :=
  logicA 2 (· &&& ·) true (.imm n) s

/-- `xor *` (R264). -/
def exec_xor_n (n : Byte) (s : State) : Host.Outcome State Fault Refusal :=
  logicA 2 (· ^^^ ·) false (.imm n) s

/-- `di` (R270). -/
def exec_di (s : State) : Host.Outcome State Fault Refusal :=
  .next { s with iff1 := false, iff2 := false }

/-- `or *` (R263). -/
def exec_or_n (n : Byte) (s : State) : Host.Outcome State Fault Refusal :=
  logicA 2 (· ||| ·) false (.imm n) s

/-- `ei` (R271). -/
def exec_ei (s : State) : Host.Outcome State Fault Refusal :=
  .next { s with iff1 := true, iff2 := true }

/-- `neg` (R261). -/
def exec_neg (s : State) : Host.Outcome State Fault Refusal :=
  let o := sub8 0 s.a false
  .next ((s.setReg8 .a o.res).setFlags ((s.flags.commitSZHVNC o).bits53 o.res))

/-- `im 0` (R272). -/
def exec_im_0 (s : State) : Host.Outcome State Fault Refusal :=
  .next { s with im := 0 }

/-- `im 0/1` (R272). -/
def exec_im_0_1 (s : State) : Host.Outcome State Fault Refusal :=
  .next { s with im := 0 }

/-- `im 1` (R272). -/
def exec_im_1 (s : State) : Host.Outcome State Fault Refusal :=
  .next { s with im := 1 }

/-- `im 2` (R272). -/
def exec_im_2 (s : State) : Host.Outcome State Fault Refusal :=
  .next { s with im := 2 }

/-- `and ixh` (R262). -/
def exec_and_ixh (s : State) : Host.Outcome State Fault Refusal :=
  logicA 2 (· &&& ·) true (.reg .ixh) s

/-- `and ixl` (R262). -/
def exec_and_ixl (s : State) : Host.Outcome State Fault Refusal :=
  logicA 2 (· &&& ·) true (.reg .ixl) s

/-- `and (ix+*)` (R262). -/
def exec_and_mixd (d : Byte) (s : State) : Host.Outcome State Fault Refusal :=
  logicA 3 (· &&& ·) true (.mem (.idx .ix d)) s

/-- `xor ixh` (R264). -/
def exec_xor_ixh (s : State) : Host.Outcome State Fault Refusal :=
  logicA 2 (· ^^^ ·) false (.reg .ixh) s

/-- `xor ixl` (R264). -/
def exec_xor_ixl (s : State) : Host.Outcome State Fault Refusal :=
  logicA 2 (· ^^^ ·) false (.reg .ixl) s

/-- `xor (ix+*)` (R264). -/
def exec_xor_mixd (d : Byte) (s : State) : Host.Outcome State Fault Refusal :=
  logicA 3 (· ^^^ ·) false (.mem (.idx .ix d)) s

/-- `or ixh` (R263). -/
def exec_or_ixh (s : State) : Host.Outcome State Fault Refusal :=
  logicA 2 (· ||| ·) false (.reg .ixh) s

/-- `or ixl` (R263). -/
def exec_or_ixl (s : State) : Host.Outcome State Fault Refusal :=
  logicA 2 (· ||| ·) false (.reg .ixl) s

/-- `or (ix+*)` (R263). -/
def exec_or_mixd (d : Byte) (s : State) : Host.Outcome State Fault Refusal :=
  logicA 3 (· ||| ·) false (.mem (.idx .ix d)) s

/-- `and iyh` (R262). -/
def exec_and_iyh (s : State) : Host.Outcome State Fault Refusal :=
  logicA 2 (· &&& ·) true (.reg .iyh) s

/-- `and iyl` (R262). -/
def exec_and_iyl (s : State) : Host.Outcome State Fault Refusal :=
  logicA 2 (· &&& ·) true (.reg .iyl) s

/-- `and (iy+*)` (R262). -/
def exec_and_miyd (d : Byte) (s : State) : Host.Outcome State Fault Refusal :=
  logicA 3 (· &&& ·) true (.mem (.idx .iy d)) s

/-- `xor iyh` (R264). -/
def exec_xor_iyh (s : State) : Host.Outcome State Fault Refusal :=
  logicA 2 (· ^^^ ·) false (.reg .iyh) s

/-- `xor iyl` (R264). -/
def exec_xor_iyl (s : State) : Host.Outcome State Fault Refusal :=
  logicA 2 (· ^^^ ·) false (.reg .iyl) s

/-- `xor (iy+*)` (R264). -/
def exec_xor_miyd (d : Byte) (s : State) : Host.Outcome State Fault Refusal :=
  logicA 3 (· ^^^ ·) false (.mem (.idx .iy d)) s

/-- `or iyh` (R263). -/
def exec_or_iyh (s : State) : Host.Outcome State Fault Refusal :=
  logicA 2 (· ||| ·) false (.reg .iyh) s

/-- `or iyl` (R263). -/
def exec_or_iyl (s : State) : Host.Outcome State Fault Refusal :=
  logicA 2 (· ||| ·) false (.reg .iyl) s

/-- `or (iy+*)` (R263). -/
def exec_or_miyd (d : Byte) (s : State) : Host.Outcome State Fault Refusal :=
  logicA 3 (· ||| ·) false (.mem (.idx .iy d)) s

end Sys2Proof.Machine
end

