-- ==== Sys2Proof/Machine/RotateShift.lean ====
section
/-! DEFINITION. Rotate and shift instructions (spec 49_rotate_shift.md R340 to R354). -/

namespace Sys2Proof.Machine

/-- The accumulator rotates (R341 to R344): `H = N = 0`, `C` the bit shifted out, bits 5 and 3 from the new `A`; `S`, `Z`,
`PV` unchanged. -/
def rotA (op : RotOp) (s : State) : Host.Outcome State Fault Refusal :=
  let o := rot op s.a s.flags.c
  let x : Flags := { s.flags with h := false, n := false, c := o.2 }
  .next ((s.setReg8 .a o.1).setFlags (x.bits53 o.1))

/-- The flags of section 3: `++0P0+`, bits 5 and 3 from the result (R345 to R352). -/
def rotFlags (x : Flags) (res : Byte) (co : Bool) : Flags := { x.commitSZP res with c := co }

/-- A rotate or shift of a register (R345 to R352). -/
def rotReg (op : RotOp) (r : Reg8) (s : State) : Host.Outcome State Fault Refusal :=
  let o := rot op (s.reg8 r) s.flags.c
  .next ((s.setReg8 r o.1).setFlags (rotFlags s.flags o.1 o.2))

/-- A rotate or shift of a memory byte, the result copied into a register if one is named (R345 to R352). -/
def rotMem (len : Nat) (op : RotOp) (loc : Loc) (copy : Option Reg8) (s : State) : Host.Outcome State Fault Refusal :=
  s.finish len do
    let a ← s.effAddr loc
    let v ← s.memRead a
    let o := rot op v s.flags.c
    let s1 ← s.memWrite a o.1
    return (s1.copyTo copy o.1).setFlags (rotFlags s.flags o.1 o.2)

/-- `rld` and `rrd` (R353, R354): the new memory byte and the new `A` from the old ones; `C` unchanged. -/
def rotDecimal (mem' a' : Byte → Byte → Byte) (s : State) : Host.Outcome State Fault Refusal :=
  s.finish 2 do
    let m ← s.memRead (s.pair .hl)
    let s1 ← s.memWrite (s.pair .hl) (mem' m s.a)
    let a := a' m s.a
    return (s1.setReg8 .a a).setFlags (s.flags.commitSZP a)

/-! ## The meanings -/

/-- `rlca` (R341). -/
def exec_rlca (s : State) : Host.Outcome State Fault Refusal :=
  rotA .rlc s

/-- `rrca` (R342). -/
def exec_rrca (s : State) : Host.Outcome State Fault Refusal :=
  rotA .rrc s

/-- `rla` (R343). -/
def exec_rla (s : State) : Host.Outcome State Fault Refusal :=
  rotA .rl s

/-- `rra` (R344). -/
def exec_rra (s : State) : Host.Outcome State Fault Refusal :=
  rotA .rr s

/-- `rlc b` (R345). -/
def exec_rlc_b (s : State) : Host.Outcome State Fault Refusal :=
  rotReg .rlc .b s

/-- `rlc c` (R345). -/
def exec_rlc_c (s : State) : Host.Outcome State Fault Refusal :=
  rotReg .rlc .c s

/-- `rlc d` (R345). -/
def exec_rlc_d (s : State) : Host.Outcome State Fault Refusal :=
  rotReg .rlc .d s

/-- `rlc e` (R345). -/
def exec_rlc_e (s : State) : Host.Outcome State Fault Refusal :=
  rotReg .rlc .e s

/-- `rlc h` (R345). -/
def exec_rlc_h (s : State) : Host.Outcome State Fault Refusal :=
  rotReg .rlc .h s

/-- `rlc l` (R345). -/
def exec_rlc_l (s : State) : Host.Outcome State Fault Refusal :=
  rotReg .rlc .l s

/-- `rlc (hl)` (R345). -/
def exec_rlc_mhl (s : State) : Host.Outcome State Fault Refusal :=
  rotMem 2 .rlc .hl none s

/-- `rlc a` (R345). -/
def exec_rlc_a (s : State) : Host.Outcome State Fault Refusal :=
  rotReg .rlc .a s

/-- `rrc b` (R346). -/
def exec_rrc_b (s : State) : Host.Outcome State Fault Refusal :=
  rotReg .rrc .b s

/-- `rrc c` (R346). -/
def exec_rrc_c (s : State) : Host.Outcome State Fault Refusal :=
  rotReg .rrc .c s

/-- `rrc d` (R346). -/
def exec_rrc_d (s : State) : Host.Outcome State Fault Refusal :=
  rotReg .rrc .d s

/-- `rrc e` (R346). -/
def exec_rrc_e (s : State) : Host.Outcome State Fault Refusal :=
  rotReg .rrc .e s

/-- `rrc h` (R346). -/
def exec_rrc_h (s : State) : Host.Outcome State Fault Refusal :=
  rotReg .rrc .h s

/-- `rrc l` (R346). -/
def exec_rrc_l (s : State) : Host.Outcome State Fault Refusal :=
  rotReg .rrc .l s

/-- `rrc (hl)` (R346). -/
def exec_rrc_mhl (s : State) : Host.Outcome State Fault Refusal :=
  rotMem 2 .rrc .hl none s

/-- `rrc a` (R346). -/
def exec_rrc_a (s : State) : Host.Outcome State Fault Refusal :=
  rotReg .rrc .a s

/-- `rl b` (R347). -/
def exec_rl_b (s : State) : Host.Outcome State Fault Refusal :=
  rotReg .rl .b s

/-- `rl c` (R347). -/
def exec_rl_c (s : State) : Host.Outcome State Fault Refusal :=
  rotReg .rl .c s

/-- `rl d` (R347). -/
def exec_rl_d (s : State) : Host.Outcome State Fault Refusal :=
  rotReg .rl .d s

/-- `rl e` (R347). -/
def exec_rl_e (s : State) : Host.Outcome State Fault Refusal :=
  rotReg .rl .e s

/-- `rl h` (R347). -/
def exec_rl_h (s : State) : Host.Outcome State Fault Refusal :=
  rotReg .rl .h s

/-- `rl l` (R347). -/
def exec_rl_l (s : State) : Host.Outcome State Fault Refusal :=
  rotReg .rl .l s

/-- `rl (hl)` (R347). -/
def exec_rl_mhl (s : State) : Host.Outcome State Fault Refusal :=
  rotMem 2 .rl .hl none s

/-- `rl a` (R347). -/
def exec_rl_a (s : State) : Host.Outcome State Fault Refusal :=
  rotReg .rl .a s

/-- `rr b` (R348). -/
def exec_rr_b (s : State) : Host.Outcome State Fault Refusal :=
  rotReg .rr .b s

/-- `rr c` (R348). -/
def exec_rr_c (s : State) : Host.Outcome State Fault Refusal :=
  rotReg .rr .c s

/-- `rr d` (R348). -/
def exec_rr_d (s : State) : Host.Outcome State Fault Refusal :=
  rotReg .rr .d s

/-- `rr e` (R348). -/
def exec_rr_e (s : State) : Host.Outcome State Fault Refusal :=
  rotReg .rr .e s

/-- `rr h` (R348). -/
def exec_rr_h (s : State) : Host.Outcome State Fault Refusal :=
  rotReg .rr .h s

/-- `rr l` (R348). -/
def exec_rr_l (s : State) : Host.Outcome State Fault Refusal :=
  rotReg .rr .l s

/-- `rr (hl)` (R348). -/
def exec_rr_mhl (s : State) : Host.Outcome State Fault Refusal :=
  rotMem 2 .rr .hl none s

/-- `rr a` (R348). -/
def exec_rr_a (s : State) : Host.Outcome State Fault Refusal :=
  rotReg .rr .a s

/-- `sla b` (R349). -/
def exec_sla_b (s : State) : Host.Outcome State Fault Refusal :=
  rotReg .sla .b s

/-- `sla c` (R349). -/
def exec_sla_c (s : State) : Host.Outcome State Fault Refusal :=
  rotReg .sla .c s

/-- `sla d` (R349). -/
def exec_sla_d (s : State) : Host.Outcome State Fault Refusal :=
  rotReg .sla .d s

/-- `sla e` (R349). -/
def exec_sla_e (s : State) : Host.Outcome State Fault Refusal :=
  rotReg .sla .e s

/-- `sla h` (R349). -/
def exec_sla_h (s : State) : Host.Outcome State Fault Refusal :=
  rotReg .sla .h s

/-- `sla l` (R349). -/
def exec_sla_l (s : State) : Host.Outcome State Fault Refusal :=
  rotReg .sla .l s

/-- `sla (hl)` (R349). -/
def exec_sla_mhl (s : State) : Host.Outcome State Fault Refusal :=
  rotMem 2 .sla .hl none s

/-- `sla a` (R349). -/
def exec_sla_a (s : State) : Host.Outcome State Fault Refusal :=
  rotReg .sla .a s

/-- `sra b` (R350). -/
def exec_sra_b (s : State) : Host.Outcome State Fault Refusal :=
  rotReg .sra .b s

/-- `sra c` (R350). -/
def exec_sra_c (s : State) : Host.Outcome State Fault Refusal :=
  rotReg .sra .c s

/-- `sra d` (R350). -/
def exec_sra_d (s : State) : Host.Outcome State Fault Refusal :=
  rotReg .sra .d s

/-- `sra e` (R350). -/
def exec_sra_e (s : State) : Host.Outcome State Fault Refusal :=
  rotReg .sra .e s

/-- `sra h` (R350). -/
def exec_sra_h (s : State) : Host.Outcome State Fault Refusal :=
  rotReg .sra .h s

/-- `sra l` (R350). -/
def exec_sra_l (s : State) : Host.Outcome State Fault Refusal :=
  rotReg .sra .l s

/-- `sra (hl)` (R350). -/
def exec_sra_mhl (s : State) : Host.Outcome State Fault Refusal :=
  rotMem 2 .sra .hl none s

/-- `sra a` (R350). -/
def exec_sra_a (s : State) : Host.Outcome State Fault Refusal :=
  rotReg .sra .a s

/-- `sll b` (R351). -/
def exec_sll_b (s : State) : Host.Outcome State Fault Refusal :=
  rotReg .sll .b s

/-- `sll c` (R351). -/
def exec_sll_c (s : State) : Host.Outcome State Fault Refusal :=
  rotReg .sll .c s

/-- `sll d` (R351). -/
def exec_sll_d (s : State) : Host.Outcome State Fault Refusal :=
  rotReg .sll .d s

/-- `sll e` (R351). -/
def exec_sll_e (s : State) : Host.Outcome State Fault Refusal :=
  rotReg .sll .e s

/-- `sll h` (R351). -/
def exec_sll_h (s : State) : Host.Outcome State Fault Refusal :=
  rotReg .sll .h s

/-- `sll l` (R351). -/
def exec_sll_l (s : State) : Host.Outcome State Fault Refusal :=
  rotReg .sll .l s

/-- `sll (hl)` (R351). -/
def exec_sll_mhl (s : State) : Host.Outcome State Fault Refusal :=
  rotMem 2 .sll .hl none s

/-- `sll a` (R351). -/
def exec_sll_a (s : State) : Host.Outcome State Fault Refusal :=
  rotReg .sll .a s

/-- `srl b` (R352). -/
def exec_srl_b (s : State) : Host.Outcome State Fault Refusal :=
  rotReg .srl .b s

/-- `srl c` (R352). -/
def exec_srl_c (s : State) : Host.Outcome State Fault Refusal :=
  rotReg .srl .c s

/-- `srl d` (R352). -/
def exec_srl_d (s : State) : Host.Outcome State Fault Refusal :=
  rotReg .srl .d s

/-- `srl e` (R352). -/
def exec_srl_e (s : State) : Host.Outcome State Fault Refusal :=
  rotReg .srl .e s

/-- `srl h` (R352). -/
def exec_srl_h (s : State) : Host.Outcome State Fault Refusal :=
  rotReg .srl .h s

/-- `srl l` (R352). -/
def exec_srl_l (s : State) : Host.Outcome State Fault Refusal :=
  rotReg .srl .l s

/-- `srl (hl)` (R352). -/
def exec_srl_mhl (s : State) : Host.Outcome State Fault Refusal :=
  rotMem 2 .srl .hl none s

/-- `srl a` (R352). -/
def exec_srl_a (s : State) : Host.Outcome State Fault Refusal :=
  rotReg .srl .a s

/-- `rrd` (R354). -/
def exec_rrd (s : State) : Host.Outcome State Fault Refusal :=
  rotDecimal (fun m a => ((a &&& 0x0F#8) <<< 4) ||| (m >>> 4)) (fun m a => (a &&& 0xF0#8) ||| (m &&& 0x0F#8)) s

/-- `rld` (R353). -/
def exec_rld (s : State) : Host.Outcome State Fault Refusal :=
  rotDecimal (fun m a => (m <<< 4) ||| (a &&& 0x0F#8)) (fun m a => (a &&& 0xF0#8) ||| (m >>> 4)) s

/-- `rlc (ix+*),b` (R345). -/
def exec_rlc_mixd_b (d : Byte) (s : State) : Host.Outcome State Fault Refusal :=
  rotMem 4 .rlc (.idx .ix d) (some .b) s

/-- `rlc (ix+*),c` (R345). -/
def exec_rlc_mixd_c (d : Byte) (s : State) : Host.Outcome State Fault Refusal :=
  rotMem 4 .rlc (.idx .ix d) (some .c) s

/-- `rlc (ix+*),d` (R345). -/
def exec_rlc_mixd_d (d : Byte) (s : State) : Host.Outcome State Fault Refusal :=
  rotMem 4 .rlc (.idx .ix d) (some .d) s

/-- `rlc (ix+*),e` (R345). -/
def exec_rlc_mixd_e (d : Byte) (s : State) : Host.Outcome State Fault Refusal :=
  rotMem 4 .rlc (.idx .ix d) (some .e) s

/-- `rlc (ix+*),h` (R345). -/
def exec_rlc_mixd_h (d : Byte) (s : State) : Host.Outcome State Fault Refusal :=
  rotMem 4 .rlc (.idx .ix d) (some .h) s

/-- `rlc (ix+*),l` (R345). -/
def exec_rlc_mixd_l (d : Byte) (s : State) : Host.Outcome State Fault Refusal :=
  rotMem 4 .rlc (.idx .ix d) (some .l) s

/-- `rlc (ix+*)` (R345). -/
def exec_rlc_mixd (d : Byte) (s : State) : Host.Outcome State Fault Refusal :=
  rotMem 4 .rlc (.idx .ix d) none s

/-- `rlc (ix+*),a` (R345). -/
def exec_rlc_mixd_a (d : Byte) (s : State) : Host.Outcome State Fault Refusal :=
  rotMem 4 .rlc (.idx .ix d) (some .a) s

/-- `rrc (ix+*),b` (R346). -/
def exec_rrc_mixd_b (d : Byte) (s : State) : Host.Outcome State Fault Refusal :=
  rotMem 4 .rrc (.idx .ix d) (some .b) s

/-- `rrc (ix+*),c` (R346). -/
def exec_rrc_mixd_c (d : Byte) (s : State) : Host.Outcome State Fault Refusal :=
  rotMem 4 .rrc (.idx .ix d) (some .c) s

/-- `rrc (ix+*),d` (R346). -/
def exec_rrc_mixd_d (d : Byte) (s : State) : Host.Outcome State Fault Refusal :=
  rotMem 4 .rrc (.idx .ix d) (some .d) s

/-- `rrc (ix+*),e` (R346). -/
def exec_rrc_mixd_e (d : Byte) (s : State) : Host.Outcome State Fault Refusal :=
  rotMem 4 .rrc (.idx .ix d) (some .e) s

/-- `rrc (ix+*),h` (R346). -/
def exec_rrc_mixd_h (d : Byte) (s : State) : Host.Outcome State Fault Refusal :=
  rotMem 4 .rrc (.idx .ix d) (some .h) s

/-- `rrc (ix+*),l` (R346). -/
def exec_rrc_mixd_l (d : Byte) (s : State) : Host.Outcome State Fault Refusal :=
  rotMem 4 .rrc (.idx .ix d) (some .l) s

/-- `rrc (ix+*)` (R346). -/
def exec_rrc_mixd (d : Byte) (s : State) : Host.Outcome State Fault Refusal :=
  rotMem 4 .rrc (.idx .ix d) none s

/-- `rrc (ix+*),a` (R346). -/
def exec_rrc_mixd_a (d : Byte) (s : State) : Host.Outcome State Fault Refusal :=
  rotMem 4 .rrc (.idx .ix d) (some .a) s

/-- `rl (ix+*),b` (R347). -/
def exec_rl_mixd_b (d : Byte) (s : State) : Host.Outcome State Fault Refusal :=
  rotMem 4 .rl (.idx .ix d) (some .b) s

/-- `rl (ix+*),c` (R347). -/
def exec_rl_mixd_c (d : Byte) (s : State) : Host.Outcome State Fault Refusal :=
  rotMem 4 .rl (.idx .ix d) (some .c) s

/-- `rl (ix+*),d` (R347). -/
def exec_rl_mixd_d (d : Byte) (s : State) : Host.Outcome State Fault Refusal :=
  rotMem 4 .rl (.idx .ix d) (some .d) s

/-- `rl (ix+*),e` (R347). -/
def exec_rl_mixd_e (d : Byte) (s : State) : Host.Outcome State Fault Refusal :=
  rotMem 4 .rl (.idx .ix d) (some .e) s

/-- `rl (ix+*),h` (R347). -/
def exec_rl_mixd_h (d : Byte) (s : State) : Host.Outcome State Fault Refusal :=
  rotMem 4 .rl (.idx .ix d) (some .h) s

/-- `rl (ix+*),l` (R347). -/
def exec_rl_mixd_l (d : Byte) (s : State) : Host.Outcome State Fault Refusal :=
  rotMem 4 .rl (.idx .ix d) (some .l) s

/-- `rl (ix+*)` (R347). -/
def exec_rl_mixd (d : Byte) (s : State) : Host.Outcome State Fault Refusal :=
  rotMem 4 .rl (.idx .ix d) none s

/-- `rl (ix+*),a` (R347). -/
def exec_rl_mixd_a (d : Byte) (s : State) : Host.Outcome State Fault Refusal :=
  rotMem 4 .rl (.idx .ix d) (some .a) s

/-- `rr (ix+*),b` (R348). -/
def exec_rr_mixd_b (d : Byte) (s : State) : Host.Outcome State Fault Refusal :=
  rotMem 4 .rr (.idx .ix d) (some .b) s

/-- `rr (ix+*),c` (R348). -/
def exec_rr_mixd_c (d : Byte) (s : State) : Host.Outcome State Fault Refusal :=
  rotMem 4 .rr (.idx .ix d) (some .c) s

/-- `rr (ix+*),d` (R348). -/
def exec_rr_mixd_d (d : Byte) (s : State) : Host.Outcome State Fault Refusal :=
  rotMem 4 .rr (.idx .ix d) (some .d) s

/-- `rr (ix+*),e` (R348). -/
def exec_rr_mixd_e (d : Byte) (s : State) : Host.Outcome State Fault Refusal :=
  rotMem 4 .rr (.idx .ix d) (some .e) s

/-- `rr (ix+*),h` (R348). -/
def exec_rr_mixd_h (d : Byte) (s : State) : Host.Outcome State Fault Refusal :=
  rotMem 4 .rr (.idx .ix d) (some .h) s

/-- `rr (ix+*),l` (R348). -/
def exec_rr_mixd_l (d : Byte) (s : State) : Host.Outcome State Fault Refusal :=
  rotMem 4 .rr (.idx .ix d) (some .l) s

/-- `rr (ix+*)` (R348). -/
def exec_rr_mixd (d : Byte) (s : State) : Host.Outcome State Fault Refusal :=
  rotMem 4 .rr (.idx .ix d) none s

/-- `rr (ix+*),a` (R348). -/
def exec_rr_mixd_a (d : Byte) (s : State) : Host.Outcome State Fault Refusal :=
  rotMem 4 .rr (.idx .ix d) (some .a) s

/-- `sla (ix+*),b` (R349). -/
def exec_sla_mixd_b (d : Byte) (s : State) : Host.Outcome State Fault Refusal :=
  rotMem 4 .sla (.idx .ix d) (some .b) s

/-- `sla (ix+*),c` (R349). -/
def exec_sla_mixd_c (d : Byte) (s : State) : Host.Outcome State Fault Refusal :=
  rotMem 4 .sla (.idx .ix d) (some .c) s

/-- `sla (ix+*),d` (R349). -/
def exec_sla_mixd_d (d : Byte) (s : State) : Host.Outcome State Fault Refusal :=
  rotMem 4 .sla (.idx .ix d) (some .d) s

/-- `sla (ix+*),e` (R349). -/
def exec_sla_mixd_e (d : Byte) (s : State) : Host.Outcome State Fault Refusal :=
  rotMem 4 .sla (.idx .ix d) (some .e) s

/-- `sla (ix+*),h` (R349). -/
def exec_sla_mixd_h (d : Byte) (s : State) : Host.Outcome State Fault Refusal :=
  rotMem 4 .sla (.idx .ix d) (some .h) s

/-- `sla (ix+*),l` (R349). -/
def exec_sla_mixd_l (d : Byte) (s : State) : Host.Outcome State Fault Refusal :=
  rotMem 4 .sla (.idx .ix d) (some .l) s

/-- `sla (ix+*)` (R349). -/
def exec_sla_mixd (d : Byte) (s : State) : Host.Outcome State Fault Refusal :=
  rotMem 4 .sla (.idx .ix d) none s

/-- `sla (ix+*),a` (R349). -/
def exec_sla_mixd_a (d : Byte) (s : State) : Host.Outcome State Fault Refusal :=
  rotMem 4 .sla (.idx .ix d) (some .a) s

/-- `sra (ix+*),b` (R350). -/
def exec_sra_mixd_b (d : Byte) (s : State) : Host.Outcome State Fault Refusal :=
  rotMem 4 .sra (.idx .ix d) (some .b) s

/-- `sra (ix+*),c` (R350). -/
def exec_sra_mixd_c (d : Byte) (s : State) : Host.Outcome State Fault Refusal :=
  rotMem 4 .sra (.idx .ix d) (some .c) s

/-- `sra (ix+*),d` (R350). -/
def exec_sra_mixd_d (d : Byte) (s : State) : Host.Outcome State Fault Refusal :=
  rotMem 4 .sra (.idx .ix d) (some .d) s

/-- `sra (ix+*),e` (R350). -/
def exec_sra_mixd_e (d : Byte) (s : State) : Host.Outcome State Fault Refusal :=
  rotMem 4 .sra (.idx .ix d) (some .e) s

/-- `sra (ix+*),h` (R350). -/
def exec_sra_mixd_h (d : Byte) (s : State) : Host.Outcome State Fault Refusal :=
  rotMem 4 .sra (.idx .ix d) (some .h) s

/-- `sra (ix+*),l` (R350). -/
def exec_sra_mixd_l (d : Byte) (s : State) : Host.Outcome State Fault Refusal :=
  rotMem 4 .sra (.idx .ix d) (some .l) s

/-- `sra (ix+*)` (R350). -/
def exec_sra_mixd (d : Byte) (s : State) : Host.Outcome State Fault Refusal :=
  rotMem 4 .sra (.idx .ix d) none s

/-- `sra (ix+*),a` (R350). -/
def exec_sra_mixd_a (d : Byte) (s : State) : Host.Outcome State Fault Refusal :=
  rotMem 4 .sra (.idx .ix d) (some .a) s

/-- `sll (ix+*),b` (R351). -/
def exec_sll_mixd_b (d : Byte) (s : State) : Host.Outcome State Fault Refusal :=
  rotMem 4 .sll (.idx .ix d) (some .b) s

/-- `sll (ix+*),c` (R351). -/
def exec_sll_mixd_c (d : Byte) (s : State) : Host.Outcome State Fault Refusal :=
  rotMem 4 .sll (.idx .ix d) (some .c) s

/-- `sll (ix+*),d` (R351). -/
def exec_sll_mixd_d (d : Byte) (s : State) : Host.Outcome State Fault Refusal :=
  rotMem 4 .sll (.idx .ix d) (some .d) s

/-- `sll (ix+*),e` (R351). -/
def exec_sll_mixd_e (d : Byte) (s : State) : Host.Outcome State Fault Refusal :=
  rotMem 4 .sll (.idx .ix d) (some .e) s

/-- `sll (ix+*),h` (R351). -/
def exec_sll_mixd_h (d : Byte) (s : State) : Host.Outcome State Fault Refusal :=
  rotMem 4 .sll (.idx .ix d) (some .h) s

/-- `sll (ix+*),l` (R351). -/
def exec_sll_mixd_l (d : Byte) (s : State) : Host.Outcome State Fault Refusal :=
  rotMem 4 .sll (.idx .ix d) (some .l) s

/-- `sll (ix+*)` (R351). -/
def exec_sll_mixd (d : Byte) (s : State) : Host.Outcome State Fault Refusal :=
  rotMem 4 .sll (.idx .ix d) none s

/-- `sll (ix+*),a` (R351). -/
def exec_sll_mixd_a (d : Byte) (s : State) : Host.Outcome State Fault Refusal :=
  rotMem 4 .sll (.idx .ix d) (some .a) s

/-- `srl (ix+*),b` (R352). -/
def exec_srl_mixd_b (d : Byte) (s : State) : Host.Outcome State Fault Refusal :=
  rotMem 4 .srl (.idx .ix d) (some .b) s

/-- `srl (ix+*),c` (R352). -/
def exec_srl_mixd_c (d : Byte) (s : State) : Host.Outcome State Fault Refusal :=
  rotMem 4 .srl (.idx .ix d) (some .c) s

/-- `srl (ix+*),d` (R352). -/
def exec_srl_mixd_d (d : Byte) (s : State) : Host.Outcome State Fault Refusal :=
  rotMem 4 .srl (.idx .ix d) (some .d) s

/-- `srl (ix+*),e` (R352). -/
def exec_srl_mixd_e (d : Byte) (s : State) : Host.Outcome State Fault Refusal :=
  rotMem 4 .srl (.idx .ix d) (some .e) s

/-- `srl (ix+*),h` (R352). -/
def exec_srl_mixd_h (d : Byte) (s : State) : Host.Outcome State Fault Refusal :=
  rotMem 4 .srl (.idx .ix d) (some .h) s

/-- `srl (ix+*),l` (R352). -/
def exec_srl_mixd_l (d : Byte) (s : State) : Host.Outcome State Fault Refusal :=
  rotMem 4 .srl (.idx .ix d) (some .l) s

/-- `srl (ix+*)` (R352). -/
def exec_srl_mixd (d : Byte) (s : State) : Host.Outcome State Fault Refusal :=
  rotMem 4 .srl (.idx .ix d) none s

/-- `srl (ix+*),a` (R352). -/
def exec_srl_mixd_a (d : Byte) (s : State) : Host.Outcome State Fault Refusal :=
  rotMem 4 .srl (.idx .ix d) (some .a) s

/-- `rlc (iy+*),b` (R345). -/
def exec_rlc_miyd_b (d : Byte) (s : State) : Host.Outcome State Fault Refusal :=
  rotMem 4 .rlc (.idx .iy d) (some .b) s

/-- `rlc (iy+*),c` (R345). -/
def exec_rlc_miyd_c (d : Byte) (s : State) : Host.Outcome State Fault Refusal :=
  rotMem 4 .rlc (.idx .iy d) (some .c) s

/-- `rlc (iy+*),d` (R345). -/
def exec_rlc_miyd_d (d : Byte) (s : State) : Host.Outcome State Fault Refusal :=
  rotMem 4 .rlc (.idx .iy d) (some .d) s

/-- `rlc (iy+*),e` (R345). -/
def exec_rlc_miyd_e (d : Byte) (s : State) : Host.Outcome State Fault Refusal :=
  rotMem 4 .rlc (.idx .iy d) (some .e) s

/-- `rlc (iy+*),h` (R345). -/
def exec_rlc_miyd_h (d : Byte) (s : State) : Host.Outcome State Fault Refusal :=
  rotMem 4 .rlc (.idx .iy d) (some .h) s

/-- `rlc (iy+*),l` (R345). -/
def exec_rlc_miyd_l (d : Byte) (s : State) : Host.Outcome State Fault Refusal :=
  rotMem 4 .rlc (.idx .iy d) (some .l) s

/-- `rlc (iy+*)` (R345). -/
def exec_rlc_miyd (d : Byte) (s : State) : Host.Outcome State Fault Refusal :=
  rotMem 4 .rlc (.idx .iy d) none s

/-- `rlc (iy+*),a` (R345). -/
def exec_rlc_miyd_a (d : Byte) (s : State) : Host.Outcome State Fault Refusal :=
  rotMem 4 .rlc (.idx .iy d) (some .a) s

/-- `rrc (iy+*),b` (R346). -/
def exec_rrc_miyd_b (d : Byte) (s : State) : Host.Outcome State Fault Refusal :=
  rotMem 4 .rrc (.idx .iy d) (some .b) s

/-- `rrc (iy+*),c` (R346). -/
def exec_rrc_miyd_c (d : Byte) (s : State) : Host.Outcome State Fault Refusal :=
  rotMem 4 .rrc (.idx .iy d) (some .c) s

/-- `rrc (iy+*),d` (R346). -/
def exec_rrc_miyd_d (d : Byte) (s : State) : Host.Outcome State Fault Refusal :=
  rotMem 4 .rrc (.idx .iy d) (some .d) s

/-- `rrc (iy+*),e` (R346). -/
def exec_rrc_miyd_e (d : Byte) (s : State) : Host.Outcome State Fault Refusal :=
  rotMem 4 .rrc (.idx .iy d) (some .e) s

/-- `rrc (iy+*),h` (R346). -/
def exec_rrc_miyd_h (d : Byte) (s : State) : Host.Outcome State Fault Refusal :=
  rotMem 4 .rrc (.idx .iy d) (some .h) s

/-- `rrc (iy+*),l` (R346). -/
def exec_rrc_miyd_l (d : Byte) (s : State) : Host.Outcome State Fault Refusal :=
  rotMem 4 .rrc (.idx .iy d) (some .l) s

/-- `rrc (iy+*)` (R346). -/
def exec_rrc_miyd (d : Byte) (s : State) : Host.Outcome State Fault Refusal :=
  rotMem 4 .rrc (.idx .iy d) none s

/-- `rrc (iy+*),a` (R346). -/
def exec_rrc_miyd_a (d : Byte) (s : State) : Host.Outcome State Fault Refusal :=
  rotMem 4 .rrc (.idx .iy d) (some .a) s

/-- `rl (iy+*),b` (R347). -/
def exec_rl_miyd_b (d : Byte) (s : State) : Host.Outcome State Fault Refusal :=
  rotMem 4 .rl (.idx .iy d) (some .b) s

/-- `rl (iy+*),c` (R347). -/
def exec_rl_miyd_c (d : Byte) (s : State) : Host.Outcome State Fault Refusal :=
  rotMem 4 .rl (.idx .iy d) (some .c) s

/-- `rl (iy+*),d` (R347). -/
def exec_rl_miyd_d (d : Byte) (s : State) : Host.Outcome State Fault Refusal :=
  rotMem 4 .rl (.idx .iy d) (some .d) s

/-- `rl (iy+*),e` (R347). -/
def exec_rl_miyd_e (d : Byte) (s : State) : Host.Outcome State Fault Refusal :=
  rotMem 4 .rl (.idx .iy d) (some .e) s

/-- `rl (iy+*),h` (R347). -/
def exec_rl_miyd_h (d : Byte) (s : State) : Host.Outcome State Fault Refusal :=
  rotMem 4 .rl (.idx .iy d) (some .h) s

/-- `rl (iy+*),l` (R347). -/
def exec_rl_miyd_l (d : Byte) (s : State) : Host.Outcome State Fault Refusal :=
  rotMem 4 .rl (.idx .iy d) (some .l) s

/-- `rl (iy+*)` (R347). -/
def exec_rl_miyd (d : Byte) (s : State) : Host.Outcome State Fault Refusal :=
  rotMem 4 .rl (.idx .iy d) none s

/-- `rl (iy+*),a` (R347). -/
def exec_rl_miyd_a (d : Byte) (s : State) : Host.Outcome State Fault Refusal :=
  rotMem 4 .rl (.idx .iy d) (some .a) s

/-- `rr (iy+*),b` (R348). -/
def exec_rr_miyd_b (d : Byte) (s : State) : Host.Outcome State Fault Refusal :=
  rotMem 4 .rr (.idx .iy d) (some .b) s

/-- `rr (iy+*),c` (R348). -/
def exec_rr_miyd_c (d : Byte) (s : State) : Host.Outcome State Fault Refusal :=
  rotMem 4 .rr (.idx .iy d) (some .c) s

/-- `rr (iy+*),d` (R348). -/
def exec_rr_miyd_d (d : Byte) (s : State) : Host.Outcome State Fault Refusal :=
  rotMem 4 .rr (.idx .iy d) (some .d) s

/-- `rr (iy+*),e` (R348). -/
def exec_rr_miyd_e (d : Byte) (s : State) : Host.Outcome State Fault Refusal :=
  rotMem 4 .rr (.idx .iy d) (some .e) s

/-- `rr (iy+*),h` (R348). -/
def exec_rr_miyd_h (d : Byte) (s : State) : Host.Outcome State Fault Refusal :=
  rotMem 4 .rr (.idx .iy d) (some .h) s

/-- `rr (iy+*),l` (R348). -/
def exec_rr_miyd_l (d : Byte) (s : State) : Host.Outcome State Fault Refusal :=
  rotMem 4 .rr (.idx .iy d) (some .l) s

/-- `rr (iy+*)` (R348). -/
def exec_rr_miyd (d : Byte) (s : State) : Host.Outcome State Fault Refusal :=
  rotMem 4 .rr (.idx .iy d) none s

/-- `rr (iy+*),a` (R348). -/
def exec_rr_miyd_a (d : Byte) (s : State) : Host.Outcome State Fault Refusal :=
  rotMem 4 .rr (.idx .iy d) (some .a) s

/-- `sla (iy+*),b` (R349). -/
def exec_sla_miyd_b (d : Byte) (s : State) : Host.Outcome State Fault Refusal :=
  rotMem 4 .sla (.idx .iy d) (some .b) s

/-- `sla (iy+*),c` (R349). -/
def exec_sla_miyd_c (d : Byte) (s : State) : Host.Outcome State Fault Refusal :=
  rotMem 4 .sla (.idx .iy d) (some .c) s

/-- `sla (iy+*),d` (R349). -/
def exec_sla_miyd_d (d : Byte) (s : State) : Host.Outcome State Fault Refusal :=
  rotMem 4 .sla (.idx .iy d) (some .d) s

/-- `sla (iy+*),e` (R349). -/
def exec_sla_miyd_e (d : Byte) (s : State) : Host.Outcome State Fault Refusal :=
  rotMem 4 .sla (.idx .iy d) (some .e) s

/-- `sla (iy+*),h` (R349). -/
def exec_sla_miyd_h (d : Byte) (s : State) : Host.Outcome State Fault Refusal :=
  rotMem 4 .sla (.idx .iy d) (some .h) s

/-- `sla (iy+*),l` (R349). -/
def exec_sla_miyd_l (d : Byte) (s : State) : Host.Outcome State Fault Refusal :=
  rotMem 4 .sla (.idx .iy d) (some .l) s

/-- `sla (iy+*)` (R349). -/
def exec_sla_miyd (d : Byte) (s : State) : Host.Outcome State Fault Refusal :=
  rotMem 4 .sla (.idx .iy d) none s

/-- `sla (iy+*),a` (R349). -/
def exec_sla_miyd_a (d : Byte) (s : State) : Host.Outcome State Fault Refusal :=
  rotMem 4 .sla (.idx .iy d) (some .a) s

/-- `sra (iy+*),b` (R350). -/
def exec_sra_miyd_b (d : Byte) (s : State) : Host.Outcome State Fault Refusal :=
  rotMem 4 .sra (.idx .iy d) (some .b) s

/-- `sra (iy+*),c` (R350). -/
def exec_sra_miyd_c (d : Byte) (s : State) : Host.Outcome State Fault Refusal :=
  rotMem 4 .sra (.idx .iy d) (some .c) s

/-- `sra (iy+*),d` (R350). -/
def exec_sra_miyd_d (d : Byte) (s : State) : Host.Outcome State Fault Refusal :=
  rotMem 4 .sra (.idx .iy d) (some .d) s

/-- `sra (iy+*),e` (R350). -/
def exec_sra_miyd_e (d : Byte) (s : State) : Host.Outcome State Fault Refusal :=
  rotMem 4 .sra (.idx .iy d) (some .e) s

/-- `sra (iy+*),h` (R350). -/
def exec_sra_miyd_h (d : Byte) (s : State) : Host.Outcome State Fault Refusal :=
  rotMem 4 .sra (.idx .iy d) (some .h) s

/-- `sra (iy+*),l` (R350). -/
def exec_sra_miyd_l (d : Byte) (s : State) : Host.Outcome State Fault Refusal :=
  rotMem 4 .sra (.idx .iy d) (some .l) s

/-- `sra (iy+*)` (R350). -/
def exec_sra_miyd (d : Byte) (s : State) : Host.Outcome State Fault Refusal :=
  rotMem 4 .sra (.idx .iy d) none s

/-- `sra (iy+*),a` (R350). -/
def exec_sra_miyd_a (d : Byte) (s : State) : Host.Outcome State Fault Refusal :=
  rotMem 4 .sra (.idx .iy d) (some .a) s

/-- `sll (iy+*),b` (R351). -/
def exec_sll_miyd_b (d : Byte) (s : State) : Host.Outcome State Fault Refusal :=
  rotMem 4 .sll (.idx .iy d) (some .b) s

/-- `sll (iy+*),c` (R351). -/
def exec_sll_miyd_c (d : Byte) (s : State) : Host.Outcome State Fault Refusal :=
  rotMem 4 .sll (.idx .iy d) (some .c) s

/-- `sll (iy+*),d` (R351). -/
def exec_sll_miyd_d (d : Byte) (s : State) : Host.Outcome State Fault Refusal :=
  rotMem 4 .sll (.idx .iy d) (some .d) s

/-- `sll (iy+*),e` (R351). -/
def exec_sll_miyd_e (d : Byte) (s : State) : Host.Outcome State Fault Refusal :=
  rotMem 4 .sll (.idx .iy d) (some .e) s

/-- `sll (iy+*),h` (R351). -/
def exec_sll_miyd_h (d : Byte) (s : State) : Host.Outcome State Fault Refusal :=
  rotMem 4 .sll (.idx .iy d) (some .h) s

/-- `sll (iy+*),l` (R351). -/
def exec_sll_miyd_l (d : Byte) (s : State) : Host.Outcome State Fault Refusal :=
  rotMem 4 .sll (.idx .iy d) (some .l) s

/-- `sll (iy+*)` (R351). -/
def exec_sll_miyd (d : Byte) (s : State) : Host.Outcome State Fault Refusal :=
  rotMem 4 .sll (.idx .iy d) none s

/-- `sll (iy+*),a` (R351). -/
def exec_sll_miyd_a (d : Byte) (s : State) : Host.Outcome State Fault Refusal :=
  rotMem 4 .sll (.idx .iy d) (some .a) s

/-- `srl (iy+*),b` (R352). -/
def exec_srl_miyd_b (d : Byte) (s : State) : Host.Outcome State Fault Refusal :=
  rotMem 4 .srl (.idx .iy d) (some .b) s

/-- `srl (iy+*),c` (R352). -/
def exec_srl_miyd_c (d : Byte) (s : State) : Host.Outcome State Fault Refusal :=
  rotMem 4 .srl (.idx .iy d) (some .c) s

/-- `srl (iy+*),d` (R352). -/
def exec_srl_miyd_d (d : Byte) (s : State) : Host.Outcome State Fault Refusal :=
  rotMem 4 .srl (.idx .iy d) (some .d) s

/-- `srl (iy+*),e` (R352). -/
def exec_srl_miyd_e (d : Byte) (s : State) : Host.Outcome State Fault Refusal :=
  rotMem 4 .srl (.idx .iy d) (some .e) s

/-- `srl (iy+*),h` (R352). -/
def exec_srl_miyd_h (d : Byte) (s : State) : Host.Outcome State Fault Refusal :=
  rotMem 4 .srl (.idx .iy d) (some .h) s

/-- `srl (iy+*),l` (R352). -/
def exec_srl_miyd_l (d : Byte) (s : State) : Host.Outcome State Fault Refusal :=
  rotMem 4 .srl (.idx .iy d) (some .l) s

/-- `srl (iy+*)` (R352). -/
def exec_srl_miyd (d : Byte) (s : State) : Host.Outcome State Fault Refusal :=
  rotMem 4 .srl (.idx .iy d) none s

/-- `srl (iy+*),a` (R352). -/
def exec_srl_miyd_a (d : Byte) (s : State) : Host.Outcome State Fault Refusal :=
  rotMem 4 .srl (.idx .iy d) (some .a) s

end Sys2Proof.Machine
end

