-- ==== Sys2Proof/Machine/Stack.lean ====
section
/-! DEFINITION. Stack instructions (spec 43_stack.md R200 to R204); `Push16` and `Pop16` are in Machine/Ops.lean. -/

namespace Sys2Proof.Machine

/-- `Push16(qq)` (R201, R202). -/
def pushPair (len : Nat) (p : Pair) (s : State) : Host.Outcome State Fault Refusal :=
  s.finish len (s.push16 (s.pair p))

/-- `qq <- Pop16()` (R203, R204); `pop af` writes all of `F`. -/
def popPair (len : Nat) (p : Pair) (s : State) : Host.Outcome State Fault Refusal :=
  s.finish len do
    let o ← s.pop16
    return o.2.setPair p o.1

/-! ## The meanings -/

/-- `pop bc` (R203). -/
def exec_pop_bc (s : State) : Host.Outcome State Fault Refusal :=
  popPair 1 .bc s

/-- `push bc` (R201). -/
def exec_push_bc (s : State) : Host.Outcome State Fault Refusal :=
  pushPair 1 .bc s

/-- `pop de` (R203). -/
def exec_pop_de (s : State) : Host.Outcome State Fault Refusal :=
  popPair 1 .de s

/-- `push de` (R201). -/
def exec_push_de (s : State) : Host.Outcome State Fault Refusal :=
  pushPair 1 .de s

/-- `pop hl` (R203). -/
def exec_pop_hl (s : State) : Host.Outcome State Fault Refusal :=
  popPair 1 .hl s

/-- `push hl` (R201). -/
def exec_push_hl (s : State) : Host.Outcome State Fault Refusal :=
  pushPair 1 .hl s

/-- `pop af` (R203). -/
def exec_pop_af (s : State) : Host.Outcome State Fault Refusal :=
  popPair 1 .af s

/-- `push af` (R201). -/
def exec_push_af (s : State) : Host.Outcome State Fault Refusal :=
  pushPair 1 .af s

/-- `pop ix` (R204). -/
def exec_pop_ix (s : State) : Host.Outcome State Fault Refusal :=
  popPair 2 .ix s

/-- `push ix` (R202). -/
def exec_push_ix (s : State) : Host.Outcome State Fault Refusal :=
  pushPair 2 .ix s

/-- `pop iy` (R204). -/
def exec_pop_iy (s : State) : Host.Outcome State Fault Refusal :=
  popPair 2 .iy s

/-- `push iy` (R202). -/
def exec_push_iy (s : State) : Host.Outcome State Fault Refusal :=
  pushPair 2 .iy s

end Sys2Proof.Machine
end

