-- ==== Sys2Proof/Machine/Step.lean ====
section
/-! DEFINITION. One step of the engine (spec 30_encoding.md R95; 60_exceptions.md R370). -/

namespace Sys2Proof.Machine

/-- The execute phase of a fetched instruction of `len` bytes: `PC` past it and `UpdateR` done first (R95). -/
def execute (i : Instr) (len : Nat) (s : State) : Host.Outcome State Fault Refusal :=
  exec i (s.fetched i len)

/-- One step (R95, R370): nothing unless `status = RUN` (notes/assumptions/6.md); end of memory; a fault of the fetch; or the
fetched instruction. -/
noncomputable def step (s : State) : Host.Outcome State Fault Refusal :=
  match s.status with
  | .run =>
    if s.inMem s.pc then
      match s.fetch with
      | .ok (i, len) => execute i len s
      | .error info => .next (s.enterFault info)
    else .next { s with status := .eom }
  | st => .fault (.notRunning st)

/-- The state with the instruction of a table word stored where the next step fetches (R96): at `PC` and the addresses after
it. It stands for the host's load of a program (notes/assumptions/7.md). -/
noncomputable def State.withFetchWord (s : State) (nbits w : Nat) : State := s.placeBytes s.pc (tableBytes nbits w)

end Sys2Proof.Machine
end

