-- ==== Sys2Proof/Machine/Run.lean ====
section
/-! DEFINITION. What the host does with the engine (spec 70_reset_and_hazards.md R400, R402 to R404): the run loop, the
execute-one entry, `load`, and direct access to every state element between steps. -/

namespace Sys2Proof.Machine

/-! ## The run loop -/

/-- How far `Run(STOP)` got (R402). -/
inductive RunEnd where
  /-- `PC >= STOP` before a step: the run returned with `status = RUN`. -/
  | stopped (s : State)
  /-- `status != RUN`: the run returned. -/
  | ended (s : State)
  /-- The steps allowed are used up; the run goes on. -/
  | running (s : State)
  /-- A step answered no state (never: R370). -/
  | noStep
deriving DecidableEq, Repr

/-- `PC >= STOP`, tested before every step when a `STOP` is given (R402). -/
def State.atStop (s : State) : Option Word → Bool
  | some stop => decide (stop.toNat ≤ s.pc.toNat)
  | none => false

/-- `Run(STOP)` for at most `fuel` steps (R402; the bound is the model's, notes/assumptions/10.md). -/
noncomputable def run (stop : Option Word) : Nat → State → RunEnd
  | 0, s => if s.status = .run then (if s.atStop stop then .stopped s else .running s) else .ended s
  | fuel + 1, s =>
    if s.status = .run then
      if s.atStop stop then .stopped s
      else
        match step s with
        | .next t => run stop fuel t
        | _ => .noStep
    else .ended s

/-! ## Execute-one -/

/-- The bytes of `n` operand fetches from `PC` on, all of them, or the first address that does not exist (R96). -/
def State.operandBytes (s : State) (n : Nat) : Except Word (List Byte) :=
  let bytes := s.bytesFrom n s.pc
  if bytes.length = n then .ok bytes else .error (s.pc + BitVec.ofNat 16 bytes.length)

/-- The row `i` with its operand bytes replaced by those at `PC`, and how far `PC` advances (R403): the opcode bytes are not
fetched, and for a `DDCB`/`FDCB` row `d` is fetched and the byte after it is skipped. -/
noncomputable def State.fetchOperands (s : State) (i : Instr) : Except Word (Instr × Nat) := do
  match encode i with
  | [b0, 0xCB#8, _, op] => do
    let bytes ← s.operandBytes 1
    match decode (b0 :: 0xCB :: (bytes ++ [op])) with
    | .ok (j, _) => return (j, 2)
    | .error _ => return (i, 2)
  | code =>
    let opcodeBytes := i.opcodeFetches
    let bytes ← s.operandBytes (code.length - opcodeBytes)
    match decode (code.take opcodeBytes ++ bytes) with
    | .ok (j, _) => return (j, bytes.length)
    | .error _ => return (i, bytes.length)

/-- `ExecuteOne(ins)` (R403): the row `ins` run with its operands at `PC`; refused unless `status = RUN` (U13);
`pc0` of a fault is where the row's first byte would stand (notes/assumptions/11.md). -/
noncomputable def executeOne (ins : Instr) (s : State) : Host.Outcome State Fault Refusal :=
  match s.status with
  | .run =>
    match s.fetchOperands ins with
    | .ok (i, n) => execute i n s
    | .error a => .next (s.enterFault (.outOfRange .mem a.toNat (s.pc - BitVec.ofNat 16 ins.opcodeFetches)))
  | st => .refused (.executeOneNotRunning st)

/-! ## State access between steps -/

/-- The 8-bit registers the host reaches by name (R25). -/
inductive Name8 where
  | a | b | c | d | e | f | h | l | i | r | ixh | ixl | iyh | iyl
  | a' | b' | c' | d' | e' | f' | h' | l'
deriving DecidableEq, Repr

/-- The 16-bit registers the host reaches by name (R25). -/
inductive Name16 where
  | af | bc | de | hl | ix | iy | pc | sp | af' | bc' | de' | hl'
deriving DecidableEq, Repr

/-- Reading an 8-bit register by name (R404). -/
def State.host8 (s : State) : Name8 → Byte
  | .a => s.a | .b => s.b | .c => s.c | .d => s.d | .e => s.e | .f => s.f | .h => s.h | .l => s.l
  | .i => s.i | .r => s.r | .ixh => s.ixh | .ixl => s.ixl | .iyh => s.iyh | .iyl => s.iyl
  | .a' => s.a' | .b' => s.b' | .c' => s.c' | .d' => s.d' | .e' => s.e' | .f' => s.f' | .h' => s.h' | .l' => s.l'

/-- Writing an 8-bit register by name (R404). -/
def State.setHost8 (s : State) (name : Name8) (v : Byte) : State :=
  match name with
  | .a => { s with a := v } | .b => { s with b := v } | .c => { s with c := v } | .d => { s with d := v }
  | .e => { s with e := v } | .f => { s with f := v } | .h => { s with h := v } | .l => { s with l := v }
  | .i => { s with i := v } | .r => { s with r := v }
  | .ixh => { s with ixh := v } | .ixl => { s with ixl := v } | .iyh => { s with iyh := v } | .iyl => { s with iyl := v }
  | .a' => { s with a' := v } | .b' => { s with b' := v } | .c' => { s with c' := v } | .d' => { s with d' := v }
  | .e' => { s with e' := v } | .f' => { s with f' := v } | .h' => { s with h' := v } | .l' => { s with l' := v }

/-- Reading a 16-bit register by name; a composite is its two halves (R23, R404). -/
def State.host16 (s : State) : Name16 → Word
  | .af => joinBytes s.a s.f | .bc => joinBytes s.b s.c | .de => joinBytes s.d s.e | .hl => joinBytes s.h s.l
  | .ix => joinBytes s.ixh s.ixl | .iy => joinBytes s.iyh s.iyl | .pc => s.pc | .sp => s.sp
  | .af' => joinBytes s.a' s.f' | .bc' => joinBytes s.b' s.c' | .de' => joinBytes s.d' s.e' | .hl' => joinBytes s.h' s.l'

/-- Writing a 16-bit register by name; a composite writes both of its halves (R23, R404). -/
def State.setHost16 (s : State) (r : Name16) (v : Word) : State :=
  match r with
  | .af => { s with a := highByte v, f := lowByte v }
  | .bc => { s with b := highByte v, c := lowByte v }
  | .de => { s with d := highByte v, e := lowByte v }
  | .hl => { s with h := highByte v, l := lowByte v }
  | .ix => { s with ixh := highByte v, ixl := lowByte v }
  | .iy => { s with iyh := highByte v, iyl := lowByte v }
  | .pc => { s with pc := v }
  | .sp => { s with sp := v }
  | .af' => { s with a' := highByte v, f' := lowByte v }
  | .bc' => { s with b' := highByte v, c' := lowByte v }
  | .de' => { s with d' := highByte v, e' := lowByte v }
  | .hl' => { s with h' := highByte v, l' := lowByte v }

/-- The host setting the flip-flops, "settable by fixtures" (R30, R404). -/
def State.setHostIff (s : State) (iff1 iff2 : Bool) : State := { s with iff1 := iff1, iff2 := iff2 }

/-- The host setting `IM`, which holds 0, 1 or 2 (R31, R404). -/
def State.setHostIm (s : State) (mode : Fin 3) : State := { s with im := BitVec.ofNat 2 mode.val }

/-- The host setting `status`: with reset, the only way out of `HALTED`, `EOM` and `FAULT` (R33, R404). -/
def State.setHostStatus (s : State) (status : Status) : State := { s with status := status }

/-- The host reading a memory cell (R404); a cell that does not exist is refused as by `MemRead` (R51). -/
def State.hostRead (s : State) (a : Word) : Except AccessFault Byte := s.memRead a

/-- The host writing a memory cell (R404). -/
def State.hostWrite (s : State) (a : Word) (v : Byte) : Except AccessFault State := s.memWrite a v

/-- The host reading a port cell (R404). -/
def State.hostPortRead (s : State) (p : Byte) : Byte := s.portRead p

/-- The host writing a port cell (R404). -/
def State.hostPortWrite (s : State) (p v : Byte) : State := s.portWrite p v

/-- Values written from the address `a` on; the first one past memory is refused, as an access there is (R51). -/
def State.loadFrom (s : State) : Nat → List Byte → Except AccessFault State
  | _, [] => .ok s
  | a, v :: rest =>
    if a < s.params.memSize then { s with mem := s.mem.write a v }.loadFrom (a + 1) rest else .error ⟨.mem, a⟩

/-- `load(sequence)`: "writes values starting at address 0" (R400). -/
def State.load (s : State) (bytes : List Byte) : Except AccessFault State := s.loadFrom 0 bytes

/-- Reset of a running engine: the state of R37 with the launch values the host supplies (R400); the parameters stay. A
`draw()` after it is fresh as well (00_scope.md R12), so the draws go on from the engine's count, whatever `x` says. -/
def State.hostReset (s : State) (x : Launch) : State := State.ofLaunch s.params { x with draws := s.draws }

end Sys2Proof.Machine
end

