-- ==== Sys2Proof/Safety.lean ====
section
/-! DEFINITION. What a well-formed state is, and what counts as a safe run. -/

namespace Sys2Proof.Machine

/-- The relations between the fields of a state that every run keeps: `MEM_SIZE` in its range (R8), memory and ports in
canonical form (R34, R50, R52), `IM` one of 0, 1, 2 (R31). -/
abbrev State.Inv (s : State) : Prop :=
  s.params.wf = true ∧ s.mem.wf s.params.memSize = true ∧ s.ports.wf 256 = true ∧ s.im ≠ 3

/-- The status is a fault's (R374). -/
def Status.isFault : Status → Bool
  | .fault _ => true
  | _ => false

/-- A state that has not entered a fault. -/
abbrev State.unfaulted (s : State) : Prop := s.status.isFault = false

/-- The engine a machine of the default size is (R371): every 16-bit address exists and every sum wraps, so that no access
can raise `OutOfRange`. -/
abbrev State.fullMemory (s : State) : Prop := s.params.memSize = 65536 ∧ s.params.addrWrap = .wrap

/-- A run is safe for `n` steps when no step enters a fault; a halt or the end of memory is a normal end (R370). -/
def SafeFor : Nat → State → Prop
  | 0, s => s.unfaulted
  | n + 1, s => s.unfaulted ∧ ∀ t, step s = .next t → SafeFor n t

end Sys2Proof.Machine
end

