-- ==== Sys2Proof/WellFormed.lean ====
section
/-! DEFINITION. Which terms of `Instr` are instructions: the field that tells the encodings of one text apart must be one
of the table's (spec 30_encoding.md R90, R104; 46_logic_control.md R272). Every operand byte and word is well-formed. -/

namespace Sys2Proof

/-- The check. `retn` has no encoding at `y = 1`, which is `reti` (R90); each `im` text has two of the eight `y`. -/
def Instr.wellFormed (i : Instr) : Bool :=
  match i with
  | .retn y => y != 1
  | .im_0 y => y == 0 || y == 4
  | .im_0_1 y => y == 1 || y == 5
  | .im_1 y => y == 2 || y == 6
  | .im_2 y => y == 3 || y == 7
  | _ => true

/-- An instruction of the opcode table. -/
abbrev WellFormed (i : Instr) : Prop := i.wellFormed = true

end Sys2Proof
end

