-- ==== Sys2Proof/Certificates/Slice0/Obligations.lean ====
section
/-! DEFINITION. The statements. First the tables of the opcode table's rows by shape: an instruction's bytes, the instruction,
and the operands its rule names (every row of spec/opcode_table.json stands in one table or in a statement); then the forms
statements share; then the statements. In a statement about `exec`, `s` is the state the execute phase starts in: `PC` is past
the whole instruction (10_state.md R26). -/

namespace Sys2Proof.Rows

open Sys2Proof.Machine

noncomputable section

/-- `ld dd,nn` (R136, R137): bytes, instruction, operands. -/
def loadPairImm (l h : Byte) : List (List Byte × Instr × Pair) :=
  [([0x01, l, h], .ld_bc_nn (joinBytes h l), .bc),
   ([0x11, l, h], .ld_de_nn (joinBytes h l), .de),
   ([0x21, l, h], .ld_hl_nn (joinBytes h l), .hl),
   ([0x31, l, h], .ld_sp_nn (joinBytes h l), .sp),
   ([0xDD, 0x21, l, h], .ld_ix_nn (joinBytes h l), .ix),
   ([0xFD, 0x21, l, h], .ld_iy_nn (joinBytes h l), .iy)]

/-- Byte stores of a register (R124, R125, R130, R131): bytes, instruction, operands. -/
def storeReg (d l h : Byte) : List (List Byte × Instr × Loc × Reg8) :=
  ([([0x02], .ld_mbc_a, .bc, .a),
   ([0x12], .ld_mde_a, .de, .a),
   ([0x32, l, h], .ld_mnn_a (joinBytes h l), (.ext (joinBytes h l)), .a),
   ([0x70], .ld_mhl_b, .hl, .b),
   ([0x71], .ld_mhl_c, .hl, .c),
   ([0x72], .ld_mhl_d, .hl, .d),
   ([0x73], .ld_mhl_e, .hl, .e),
   ([0x74], .ld_mhl_h, .hl, .h),
   ([0x75], .ld_mhl_l, .hl, .l),
   ([0x77], .ld_mhl_a, .hl, .a),
   ([0xDD, 0x70, d], .ld_mixd_b d, (.idx .ix d), .b),
   ([0xDD, 0x71, d], .ld_mixd_c d, (.idx .ix d), .c),
   ([0xDD, 0x72, d], .ld_mixd_d d, (.idx .ix d), .d),
   ([0xDD, 0x73, d], .ld_mixd_e d, (.idx .ix d), .e),
   ([0xDD, 0x74, d], .ld_mixd_h d, (.idx .ix d), .h),
   ([0xDD, 0x75, d], .ld_mixd_l d, (.idx .ix d), .l),
   ([0xDD, 0x77, d], .ld_mixd_a d, (.idx .ix d), .a),
   ([0xFD, 0x70, d], .ld_miyd_b d, (.idx .iy d), .b),
   ([0xFD, 0x71, d], .ld_miyd_c d, (.idx .iy d), .c),
   ([0xFD, 0x72, d], .ld_miyd_d d, (.idx .iy d), .d)] : List (List Byte × Instr × Loc × Reg8)) ++
  ([([0xFD, 0x73, d], .ld_miyd_e d, (.idx .iy d), .e),
   ([0xFD, 0x74, d], .ld_miyd_h d, (.idx .iy d), .h),
   ([0xFD, 0x75, d], .ld_miyd_l d, (.idx .iy d), .l),
   ([0xFD, 0x77, d], .ld_miyd_a d, (.idx .iy d), .a)] : List (List Byte × Instr × Loc × Reg8))

/-- 16-bit `inc` (R177, R178): bytes, instruction, operands. -/
def incPair : List (List Byte × Instr × Pair) :=
  [([0x03], .inc_bc, .bc),
   ([0x13], .inc_de, .de),
   ([0x23], .inc_hl, .hl),
   ([0x33], .inc_sp, .sp),
   ([0xDD, 0x23], .inc_ix, .ix),
   ([0xFD, 0x23], .inc_iy, .iy)]

/-- `inc r` (R169): bytes, instruction, operands. -/
def incReg : List (List Byte × Instr × Reg8) :=
  [([0x04], .inc_b, .b),
   ([0x0C], .inc_c, .c),
   ([0x14], .inc_d, .d),
   ([0x1C], .inc_e, .e),
   ([0x24], .inc_h, .h),
   ([0x2C], .inc_l, .l),
   ([0x3C], .inc_a, .a),
   ([0xDD, 0x24], .inc_ixh, .ixh),
   ([0xDD, 0x2C], .inc_ixl, .ixl),
   ([0xFD, 0x24], .inc_iyh, .iyh),
   ([0xFD, 0x2C], .inc_iyl, .iyl)]

/-- `dec r` (R171): bytes, instruction, operands. -/
def decReg : List (List Byte × Instr × Reg8) :=
  [([0x05], .dec_b, .b),
   ([0x0D], .dec_c, .c),
   ([0x15], .dec_d, .d),
   ([0x1D], .dec_e, .e),
   ([0x25], .dec_h, .h),
   ([0x2D], .dec_l, .l),
   ([0x3D], .dec_a, .a),
   ([0xDD, 0x25], .dec_ixh, .ixh),
   ([0xDD, 0x2D], .dec_ixl, .ixl),
   ([0xFD, 0x25], .dec_iyh, .iyh),
   ([0xFD, 0x2D], .dec_iyl, .iyl)]

/-- `ld r,n` (R121): bytes, instruction, operands. -/
def loadImm (n : Byte) : List (List Byte × Instr × Reg8) :=
  [([0x06, n], .ld_b_n n, .b),
   ([0x0E, n], .ld_c_n n, .c),
   ([0x16, n], .ld_d_n n, .d),
   ([0x1E, n], .ld_e_n n, .e),
   ([0x26, n], .ld_h_n n, .h),
   ([0x2E, n], .ld_l_n n, .l),
   ([0x3E, n], .ld_a_n n, .a),
   ([0xDD, 0x26, n], .ld_ixh_n n, .ixh),
   ([0xDD, 0x2E, n], .ld_ixl_n n, .ixl),
   ([0xFD, 0x26, n], .ld_iyh_n n, .iyh),
   ([0xFD, 0x2E, n], .ld_iyl_n n, .iyl)]

/-- Accumulator rotates (R341 to R344): bytes, instruction, operands. -/
def rotA : List (List Byte × Instr × RotOp) :=
  [([0x07], .rlca, .rlc),
   ([0x0F], .rrca, .rrc),
   ([0x17], .rla, .rl),
   ([0x1F], .rra, .rr)]

/-- 16-bit `add` (R173, R176): bytes, instruction, operands. -/
def addPair : List (List Byte × Instr × Pair × Pair) :=
  [([0x09], .add_hl_bc, .hl, .bc),
   ([0x19], .add_hl_de, .hl, .de),
   ([0x29], .add_hl_hl, .hl, .hl),
   ([0x39], .add_hl_sp, .hl, .sp),
   ([0xDD, 0x09], .add_ix_bc, .ix, .bc),
   ([0xDD, 0x19], .add_ix_de, .ix, .de),
   ([0xDD, 0x29], .add_ix_ix, .ix, .ix),
   ([0xDD, 0x39], .add_ix_sp, .ix, .sp),
   ([0xFD, 0x09], .add_iy_bc, .iy, .bc),
   ([0xFD, 0x19], .add_iy_de, .iy, .de),
   ([0xFD, 0x29], .add_iy_iy, .iy, .iy),
   ([0xFD, 0x39], .add_iy_sp, .iy, .sp)]

/-- Byte loads from memory (R122, R123, R128, R129): bytes, instruction, operands. -/
def loadMem (d l h : Byte) : List (List Byte × Instr × Reg8 × Loc) :=
  ([([0x0A], .ld_a_mbc, .a, .bc),
   ([0x1A], .ld_a_mde, .a, .de),
   ([0x3A, l, h], .ld_a_mnn (joinBytes h l), .a, (.ext (joinBytes h l))),
   ([0x46], .ld_b_mhl, .b, .hl),
   ([0x4E], .ld_c_mhl, .c, .hl),
   ([0x56], .ld_d_mhl, .d, .hl),
   ([0x5E], .ld_e_mhl, .e, .hl),
   ([0x66], .ld_h_mhl, .h, .hl),
   ([0x6E], .ld_l_mhl, .l, .hl),
   ([0x7E], .ld_a_mhl, .a, .hl),
   ([0xDD, 0x46, d], .ld_b_mixd d, .b, (.idx .ix d)),
   ([0xDD, 0x4E, d], .ld_c_mixd d, .c, (.idx .ix d)),
   ([0xDD, 0x56, d], .ld_d_mixd d, .d, (.idx .ix d)),
   ([0xDD, 0x5E, d], .ld_e_mixd d, .e, (.idx .ix d)),
   ([0xDD, 0x66, d], .ld_h_mixd d, .h, (.idx .ix d)),
   ([0xDD, 0x6E, d], .ld_l_mixd d, .l, (.idx .ix d)),
   ([0xDD, 0x7E, d], .ld_a_mixd d, .a, (.idx .ix d)),
   ([0xFD, 0x46, d], .ld_b_miyd d, .b, (.idx .iy d)),
   ([0xFD, 0x4E, d], .ld_c_miyd d, .c, (.idx .iy d)),
   ([0xFD, 0x56, d], .ld_d_miyd d, .d, (.idx .iy d))] : List (List Byte × Instr × Reg8 × Loc)) ++
  ([([0xFD, 0x5E, d], .ld_e_miyd d, .e, (.idx .iy d)),
   ([0xFD, 0x66, d], .ld_h_miyd d, .h, (.idx .iy d)),
   ([0xFD, 0x6E, d], .ld_l_miyd d, .l, (.idx .iy d)),
   ([0xFD, 0x7E, d], .ld_a_miyd d, .a, (.idx .iy d))] : List (List Byte × Instr × Reg8 × Loc))

/-- 16-bit `dec` (R179, R180): bytes, instruction, operands. -/
def decPair : List (List Byte × Instr × Pair) :=
  [([0x0B], .dec_bc, .bc),
   ([0x1B], .dec_de, .de),
   ([0x2B], .dec_hl, .hl),
   ([0x3B], .dec_sp, .sp),
   ([0xDD, 0x2B], .dec_ix, .ix),
   ([0xFD, 0x2B], .dec_iy, .iy)]

/-- `jr cc,e` (R213): bytes, instruction, operands. -/
def jumpRelIf (e : Byte) : List (List Byte × Instr × Cond) :=
  [([0x20, e], .jr_nz_e e, .nz),
   ([0x28, e], .jr_z_e e, .z),
   ([0x30, e], .jr_nc_e e, .nc),
   ([0x38, e], .jr_c_e e, .c)]

/-- Word stores (R141 to R143): bytes, instruction, operands. -/
def storePair (l h : Byte) : List (List Byte × Instr × Pair) :=
  [([0x22, l, h], .ld_mnn_hl false (joinBytes h l), .hl),
   ([0xED, 0x43, l, h], .ld_mnn_bc (joinBytes h l), .bc),
   ([0xED, 0x53, l, h], .ld_mnn_de (joinBytes h l), .de),
   ([0xED, 0x63, l, h], .ld_mnn_hl true (joinBytes h l), .hl),
   ([0xED, 0x73, l, h], .ld_mnn_sp (joinBytes h l), .sp),
   ([0xDD, 0x22, l, h], .ld_mnn_ix (joinBytes h l), .ix),
   ([0xFD, 0x22, l, h], .ld_mnn_iy (joinBytes h l), .iy)]

/-- Word loads (R138 to R140): bytes, instruction, operands. -/
def loadPairMem (l h : Byte) : List (List Byte × Instr × Pair) :=
  [([0x2A, l, h], .ld_hl_mnn false (joinBytes h l), .hl),
   ([0xED, 0x4B, l, h], .ld_bc_mnn (joinBytes h l), .bc),
   ([0xED, 0x5B, l, h], .ld_de_mnn (joinBytes h l), .de),
   ([0xED, 0x6B, l, h], .ld_hl_mnn true (joinBytes h l), .hl),
   ([0xED, 0x7B, l, h], .ld_sp_mnn (joinBytes h l), .sp),
   ([0xDD, 0x2A, l, h], .ld_ix_mnn (joinBytes h l), .ix),
   ([0xFD, 0x2A, l, h], .ld_iy_mnn (joinBytes h l), .iy)]

/-- `inc m` (R170): bytes, instruction, operands. -/
def incMem (d : Byte) : List (List Byte × Instr × Loc) :=
  [([0x34], .inc_mhl, .hl),
   ([0xDD, 0x34, d], .inc_mixd d, (.idx .ix d)),
   ([0xFD, 0x34, d], .inc_miyd d, (.idx .iy d))]

/-- `dec m` (R172): bytes, instruction, operands. -/
def decMem (d : Byte) : List (List Byte × Instr × Loc) :=
  [([0x35], .dec_mhl, .hl),
   ([0xDD, 0x35, d], .dec_mixd d, (.idx .ix d)),
   ([0xFD, 0x35, d], .dec_miyd d, (.idx .iy d))]

/-- Byte stores of an immediate (R126, R127): bytes, instruction, operands. -/
def storeImm (d n : Byte) : List (List Byte × Instr × Loc) :=
  [([0x36, n], .ld_mhl_n n, .hl),
   ([0xDD, 0x36, d, n], .ld_mixd_n d n, (.idx .ix d)),
   ([0xFD, 0x36, d, n], .ld_miyd_n d n, (.idx .iy d))]

/-- `ld r,r'` (R120): bytes, instruction, operands. -/
def loadReg : List (List Byte × Instr × Reg8 × Reg8) :=
  ([([0x40], .ld_b_b, .b, .b),
   ([0x41], .ld_b_c, .b, .c),
   ([0x42], .ld_b_d, .b, .d),
   ([0x43], .ld_b_e, .b, .e),
   ([0x44], .ld_b_h, .b, .h),
   ([0x45], .ld_b_l, .b, .l),
   ([0x47], .ld_b_a, .b, .a),
   ([0x48], .ld_c_b, .c, .b),
   ([0x49], .ld_c_c, .c, .c),
   ([0x4A], .ld_c_d, .c, .d),
   ([0x4B], .ld_c_e, .c, .e),
   ([0x4C], .ld_c_h, .c, .h),
   ([0x4D], .ld_c_l, .c, .l),
   ([0x4F], .ld_c_a, .c, .a),
   ([0x50], .ld_d_b, .d, .b),
   ([0x51], .ld_d_c, .d, .c),
   ([0x52], .ld_d_d, .d, .d),
   ([0x53], .ld_d_e, .d, .e),
   ([0x54], .ld_d_h, .d, .h),
   ([0x55], .ld_d_l, .d, .l)] : List (List Byte × Instr × Reg8 × Reg8)) ++
  ([([0x57], .ld_d_a, .d, .a),
   ([0x58], .ld_e_b, .e, .b),
   ([0x59], .ld_e_c, .e, .c),
   ([0x5A], .ld_e_d, .e, .d),
   ([0x5B], .ld_e_e, .e, .e),
   ([0x5C], .ld_e_h, .e, .h),
   ([0x5D], .ld_e_l, .e, .l),
   ([0x5F], .ld_e_a, .e, .a),
   ([0x60], .ld_h_b, .h, .b),
   ([0x61], .ld_h_c, .h, .c),
   ([0x62], .ld_h_d, .h, .d),
   ([0x63], .ld_h_e, .h, .e),
   ([0x64], .ld_h_h, .h, .h),
   ([0x65], .ld_h_l, .h, .l),
   ([0x67], .ld_h_a, .h, .a),
   ([0x68], .ld_l_b, .l, .b),
   ([0x69], .ld_l_c, .l, .c),
   ([0x6A], .ld_l_d, .l, .d),
   ([0x6B], .ld_l_e, .l, .e),
   ([0x6C], .ld_l_h, .l, .h)] : List (List Byte × Instr × Reg8 × Reg8)) ++
  ([([0x6D], .ld_l_l, .l, .l),
   ([0x6F], .ld_l_a, .l, .a),
   ([0x78], .ld_a_b, .a, .b),
   ([0x79], .ld_a_c, .a, .c),
   ([0x7A], .ld_a_d, .a, .d),
   ([0x7B], .ld_a_e, .a, .e),
   ([0x7C], .ld_a_h, .a, .h),
   ([0x7D], .ld_a_l, .a, .l),
   ([0x7F], .ld_a_a, .a, .a),
   ([0xDD, 0x44], .ld_b_ixh, .b, .ixh),
   ([0xDD, 0x45], .ld_b_ixl, .b, .ixl),
   ([0xDD, 0x4C], .ld_c_ixh, .c, .ixh),
   ([0xDD, 0x4D], .ld_c_ixl, .c, .ixl),
   ([0xDD, 0x54], .ld_d_ixh, .d, .ixh),
   ([0xDD, 0x55], .ld_d_ixl, .d, .ixl),
   ([0xDD, 0x5C], .ld_e_ixh, .e, .ixh),
   ([0xDD, 0x5D], .ld_e_ixl, .e, .ixl),
   ([0xDD, 0x60], .ld_ixh_b, .ixh, .b),
   ([0xDD, 0x61], .ld_ixh_c, .ixh, .c),
   ([0xDD, 0x62], .ld_ixh_d, .ixh, .d)] : List (List Byte × Instr × Reg8 × Reg8)) ++
  ([([0xDD, 0x63], .ld_ixh_e, .ixh, .e),
   ([0xDD, 0x64], .ld_ixh_ixh, .ixh, .ixh),
   ([0xDD, 0x65], .ld_ixh_ixl, .ixh, .ixl),
   ([0xDD, 0x67], .ld_ixh_a, .ixh, .a),
   ([0xDD, 0x68], .ld_ixl_b, .ixl, .b),
   ([0xDD, 0x69], .ld_ixl_c, .ixl, .c),
   ([0xDD, 0x6A], .ld_ixl_d, .ixl, .d),
   ([0xDD, 0x6B], .ld_ixl_e, .ixl, .e),
   ([0xDD, 0x6C], .ld_ixl_ixh, .ixl, .ixh),
   ([0xDD, 0x6D], .ld_ixl_ixl, .ixl, .ixl),
   ([0xDD, 0x6F], .ld_ixl_a, .ixl, .a),
   ([0xDD, 0x7C], .ld_a_ixh, .a, .ixh),
   ([0xDD, 0x7D], .ld_a_ixl, .a, .ixl),
   ([0xFD, 0x44], .ld_b_iyh, .b, .iyh),
   ([0xFD, 0x45], .ld_b_iyl, .b, .iyl),
   ([0xFD, 0x4C], .ld_c_iyh, .c, .iyh),
   ([0xFD, 0x4D], .ld_c_iyl, .c, .iyl),
   ([0xFD, 0x54], .ld_d_iyh, .d, .iyh),
   ([0xFD, 0x55], .ld_d_iyl, .d, .iyl),
   ([0xFD, 0x5C], .ld_e_iyh, .e, .iyh)] : List (List Byte × Instr × Reg8 × Reg8)) ++
  ([([0xFD, 0x5D], .ld_e_iyl, .e, .iyl),
   ([0xFD, 0x60], .ld_iyh_b, .iyh, .b),
   ([0xFD, 0x61], .ld_iyh_c, .iyh, .c),
   ([0xFD, 0x62], .ld_iyh_d, .iyh, .d),
   ([0xFD, 0x63], .ld_iyh_e, .iyh, .e),
   ([0xFD, 0x64], .ld_iyh_iyh, .iyh, .iyh),
   ([0xFD, 0x65], .ld_iyh_iyl, .iyh, .iyl),
   ([0xFD, 0x67], .ld_iyh_a, .iyh, .a),
   ([0xFD, 0x68], .ld_iyl_b, .iyl, .b),
   ([0xFD, 0x69], .ld_iyl_c, .iyl, .c),
   ([0xFD, 0x6A], .ld_iyl_d, .iyl, .d),
   ([0xFD, 0x6B], .ld_iyl_e, .iyl, .e),
   ([0xFD, 0x6C], .ld_iyl_iyh, .iyl, .iyh),
   ([0xFD, 0x6D], .ld_iyl_iyl, .iyl, .iyl),
   ([0xFD, 0x6F], .ld_iyl_a, .iyl, .a),
   ([0xFD, 0x7C], .ld_a_iyh, .a, .iyh),
   ([0xFD, 0x7D], .ld_a_iyl, .a, .iyl)] : List (List Byte × Instr × Reg8 × Reg8))

/-- `add a,s` (R165): bytes, instruction, operands. -/
def add (d n : Byte) : List (List Byte × Instr × Src8) :=
  [([0x80], .add_a_b, (.reg .b)),
   ([0x81], .add_a_c, (.reg .c)),
   ([0x82], .add_a_d, (.reg .d)),
   ([0x83], .add_a_e, (.reg .e)),
   ([0x84], .add_a_h, (.reg .h)),
   ([0x85], .add_a_l, (.reg .l)),
   ([0x86], .add_a_mhl, (.mem .hl)),
   ([0x87], .add_a_a, (.reg .a)),
   ([0xC6, n], .add_a_n n, (.imm n)),
   ([0xDD, 0x84], .add_a_ixh, (.reg .ixh)),
   ([0xDD, 0x85], .add_a_ixl, (.reg .ixl)),
   ([0xDD, 0x86, d], .add_a_mixd d, (.mem (.idx .ix d))),
   ([0xFD, 0x84], .add_a_iyh, (.reg .iyh)),
   ([0xFD, 0x85], .add_a_iyl, (.reg .iyl)),
   ([0xFD, 0x86, d], .add_a_miyd d, (.mem (.idx .iy d)))]

/-- `adc a,s` (R166): bytes, instruction, operands. -/
def adc (d n : Byte) : List (List Byte × Instr × Src8) :=
  [([0x88], .adc_a_b, (.reg .b)),
   ([0x89], .adc_a_c, (.reg .c)),
   ([0x8A], .adc_a_d, (.reg .d)),
   ([0x8B], .adc_a_e, (.reg .e)),
   ([0x8C], .adc_a_h, (.reg .h)),
   ([0x8D], .adc_a_l, (.reg .l)),
   ([0x8E], .adc_a_mhl, (.mem .hl)),
   ([0x8F], .adc_a_a, (.reg .a)),
   ([0xCE, n], .adc_a_n n, (.imm n)),
   ([0xDD, 0x8C], .adc_a_ixh, (.reg .ixh)),
   ([0xDD, 0x8D], .adc_a_ixl, (.reg .ixl)),
   ([0xDD, 0x8E, d], .adc_a_mixd d, (.mem (.idx .ix d))),
   ([0xFD, 0x8C], .adc_a_iyh, (.reg .iyh)),
   ([0xFD, 0x8D], .adc_a_iyl, (.reg .iyl)),
   ([0xFD, 0x8E, d], .adc_a_miyd d, (.mem (.idx .iy d)))]

/-- `sub s` (R167): bytes, instruction, operands. -/
def sub (d n : Byte) : List (List Byte × Instr × Src8) :=
  [([0x90], .sub_b, (.reg .b)),
   ([0x91], .sub_c, (.reg .c)),
   ([0x92], .sub_d, (.reg .d)),
   ([0x93], .sub_e, (.reg .e)),
   ([0x94], .sub_h, (.reg .h)),
   ([0x95], .sub_l, (.reg .l)),
   ([0x96], .sub_mhl, (.mem .hl)),
   ([0x97], .sub_a, (.reg .a)),
   ([0xD6, n], .sub_n n, (.imm n)),
   ([0xDD, 0x94], .sub_ixh, (.reg .ixh)),
   ([0xDD, 0x95], .sub_ixl, (.reg .ixl)),
   ([0xDD, 0x96, d], .sub_mixd d, (.mem (.idx .ix d))),
   ([0xFD, 0x94], .sub_iyh, (.reg .iyh)),
   ([0xFD, 0x95], .sub_iyl, (.reg .iyl)),
   ([0xFD, 0x96, d], .sub_miyd d, (.mem (.idx .iy d)))]

/-- `sbc a,s` (R168): bytes, instruction, operands. -/
def sbc (d n : Byte) : List (List Byte × Instr × Src8) :=
  [([0x98], .sbc_a_b, (.reg .b)),
   ([0x99], .sbc_a_c, (.reg .c)),
   ([0x9A], .sbc_a_d, (.reg .d)),
   ([0x9B], .sbc_a_e, (.reg .e)),
   ([0x9C], .sbc_a_h, (.reg .h)),
   ([0x9D], .sbc_a_l, (.reg .l)),
   ([0x9E], .sbc_a_mhl, (.mem .hl)),
   ([0x9F], .sbc_a_a, (.reg .a)),
   ([0xDE, n], .sbc_a_n n, (.imm n)),
   ([0xDD, 0x9C], .sbc_a_ixh, (.reg .ixh)),
   ([0xDD, 0x9D], .sbc_a_ixl, (.reg .ixl)),
   ([0xDD, 0x9E, d], .sbc_a_mixd d, (.mem (.idx .ix d))),
   ([0xFD, 0x9C], .sbc_a_iyh, (.reg .iyh)),
   ([0xFD, 0x9D], .sbc_a_iyl, (.reg .iyl)),
   ([0xFD, 0x9E, d], .sbc_a_miyd d, (.mem (.idx .iy d)))]

/-- `and s` (R262): bytes, instruction, operands. -/
def and (d n : Byte) : List (List Byte × Instr × Src8) :=
  [([0xA0], .and_b, (.reg .b)),
   ([0xA1], .and_c, (.reg .c)),
   ([0xA2], .and_d, (.reg .d)),
   ([0xA3], .and_e, (.reg .e)),
   ([0xA4], .and_h, (.reg .h)),
   ([0xA5], .and_l, (.reg .l)),
   ([0xA6], .and_mhl, (.mem .hl)),
   ([0xA7], .and_a, (.reg .a)),
   ([0xE6, n], .and_n n, (.imm n)),
   ([0xDD, 0xA4], .and_ixh, (.reg .ixh)),
   ([0xDD, 0xA5], .and_ixl, (.reg .ixl)),
   ([0xDD, 0xA6, d], .and_mixd d, (.mem (.idx .ix d))),
   ([0xFD, 0xA4], .and_iyh, (.reg .iyh)),
   ([0xFD, 0xA5], .and_iyl, (.reg .iyl)),
   ([0xFD, 0xA6, d], .and_miyd d, (.mem (.idx .iy d)))]

/-- `xor s` (R264): bytes, instruction, operands. -/
def xor (d n : Byte) : List (List Byte × Instr × Src8) :=
  [([0xA8], .xor_b, (.reg .b)),
   ([0xA9], .xor_c, (.reg .c)),
   ([0xAA], .xor_d, (.reg .d)),
   ([0xAB], .xor_e, (.reg .e)),
   ([0xAC], .xor_h, (.reg .h)),
   ([0xAD], .xor_l, (.reg .l)),
   ([0xAE], .xor_mhl, (.mem .hl)),
   ([0xAF], .xor_a, (.reg .a)),
   ([0xEE, n], .xor_n n, (.imm n)),
   ([0xDD, 0xAC], .xor_ixh, (.reg .ixh)),
   ([0xDD, 0xAD], .xor_ixl, (.reg .ixl)),
   ([0xDD, 0xAE, d], .xor_mixd d, (.mem (.idx .ix d))),
   ([0xFD, 0xAC], .xor_iyh, (.reg .iyh)),
   ([0xFD, 0xAD], .xor_iyl, (.reg .iyl)),
   ([0xFD, 0xAE, d], .xor_miyd d, (.mem (.idx .iy d)))]

/-- `or s` (R263): bytes, instruction, operands. -/
def or (d n : Byte) : List (List Byte × Instr × Src8) :=
  [([0xB0], .or_b, (.reg .b)),
   ([0xB1], .or_c, (.reg .c)),
   ([0xB2], .or_d, (.reg .d)),
   ([0xB3], .or_e, (.reg .e)),
   ([0xB4], .or_h, (.reg .h)),
   ([0xB5], .or_l, (.reg .l)),
   ([0xB6], .or_mhl, (.mem .hl)),
   ([0xB7], .or_a, (.reg .a)),
   ([0xF6, n], .or_n n, (.imm n)),
   ([0xDD, 0xB4], .or_ixh, (.reg .ixh)),
   ([0xDD, 0xB5], .or_ixl, (.reg .ixl)),
   ([0xDD, 0xB6, d], .or_mixd d, (.mem (.idx .ix d))),
   ([0xFD, 0xB4], .or_iyh, (.reg .iyh)),
   ([0xFD, 0xB5], .or_iyl, (.reg .iyl)),
   ([0xFD, 0xB6, d], .or_miyd d, (.mem (.idx .iy d)))]

/-- `cp s` (R240): bytes, instruction, operands. -/
def cp (d n : Byte) : List (List Byte × Instr × Src8) :=
  [([0xB8], .cp_b, (.reg .b)),
   ([0xB9], .cp_c, (.reg .c)),
   ([0xBA], .cp_d, (.reg .d)),
   ([0xBB], .cp_e, (.reg .e)),
   ([0xBC], .cp_h, (.reg .h)),
   ([0xBD], .cp_l, (.reg .l)),
   ([0xBE], .cp_mhl, (.mem .hl)),
   ([0xBF], .cp_a, (.reg .a)),
   ([0xFE, n], .cp_n n, (.imm n)),
   ([0xDD, 0xBC], .cp_ixh, (.reg .ixh)),
   ([0xDD, 0xBD], .cp_ixl, (.reg .ixl)),
   ([0xDD, 0xBE, d], .cp_mixd d, (.mem (.idx .ix d))),
   ([0xFD, 0xBC], .cp_iyh, (.reg .iyh)),
   ([0xFD, 0xBD], .cp_iyl, (.reg .iyl)),
   ([0xFD, 0xBE, d], .cp_miyd d, (.mem (.idx .iy d)))]

/-- `ret cc` (R220): bytes, instruction, operands. -/
def retIf : List (List Byte × Instr × Cond) :=
  [([0xC0], .ret_nz, .nz),
   ([0xC8], .ret_z, .z),
   ([0xD0], .ret_nc, .nc),
   ([0xD8], .ret_c, .c),
   ([0xE0], .ret_po, .po),
   ([0xE8], .ret_pe, .pe),
   ([0xF0], .ret_p, .p),
   ([0xF8], .ret_m, .m)]

/-- `pop` (R203, R204): bytes, instruction, operands. -/
def pop : List (List Byte × Instr × Pair) :=
  [([0xC1], .pop_bc, .bc),
   ([0xD1], .pop_de, .de),
   ([0xE1], .pop_hl, .hl),
   ([0xF1], .pop_af, .af),
   ([0xDD, 0xE1], .pop_ix, .ix),
   ([0xFD, 0xE1], .pop_iy, .iy)]

/-- `jp cc,nn` (R211): bytes, instruction, operands. -/
def jumpIf (l h : Byte) : List (List Byte × Instr × Cond) :=
  [([0xC2, l, h], .jp_nz_nn (joinBytes h l), .nz),
   ([0xCA, l, h], .jp_z_nn (joinBytes h l), .z),
   ([0xD2, l, h], .jp_nc_nn (joinBytes h l), .nc),
   ([0xDA, l, h], .jp_c_nn (joinBytes h l), .c),
   ([0xE2, l, h], .jp_po_nn (joinBytes h l), .po),
   ([0xEA, l, h], .jp_pe_nn (joinBytes h l), .pe),
   ([0xF2, l, h], .jp_p_nn (joinBytes h l), .p),
   ([0xFA, l, h], .jp_m_nn (joinBytes h l), .m)]

/-- `call cc,nn` (R218): bytes, instruction, operands. -/
def callIf (l h : Byte) : List (List Byte × Instr × Cond) :=
  [([0xC4, l, h], .call_nz_nn (joinBytes h l), .nz),
   ([0xCC, l, h], .call_z_nn (joinBytes h l), .z),
   ([0xD4, l, h], .call_nc_nn (joinBytes h l), .nc),
   ([0xDC, l, h], .call_c_nn (joinBytes h l), .c),
   ([0xE4, l, h], .call_po_nn (joinBytes h l), .po),
   ([0xEC, l, h], .call_pe_nn (joinBytes h l), .pe),
   ([0xF4, l, h], .call_p_nn (joinBytes h l), .p),
   ([0xFC, l, h], .call_m_nn (joinBytes h l), .m)]

/-- `push` (R201, R202): bytes, instruction, operands. -/
def push : List (List Byte × Instr × Pair) :=
  [([0xC5], .push_bc, .bc),
   ([0xD5], .push_de, .de),
   ([0xE5], .push_hl, .hl),
   ([0xF5], .push_af, .af),
   ([0xDD, 0xE5], .push_ix, .ix),
   ([0xFD, 0xE5], .push_iy, .iy)]

/-- `rst p` (R223): bytes, instruction, operands. -/
def rst : List (List Byte × Instr × Word) :=
  [([0xC7], .rst_00h, 0x00),
   ([0xCF], .rst_08h, 0x08),
   ([0xD7], .rst_10h, 0x10),
   ([0xDF], .rst_18h, 0x18),
   ([0xE7], .rst_20h, 0x20),
   ([0xEF], .rst_28h, 0x28),
   ([0xF7], .rst_30h, 0x30),
   ([0xFF], .rst_38h, 0x38)]

/-- `ex (sp),rr` (R153, R154): bytes, instruction, operands. -/
def exTop : List (List Byte × Instr × Pair) :=
  [([0xE3], .ex_msp_hl, .hl),
   ([0xDD, 0xE3], .ex_msp_ix, .ix),
   ([0xFD, 0xE3], .ex_msp_iy, .iy)]

/-- `jp (hl)`, `jp (ix)`, `jp (iy)` (R214, R215): bytes, instruction, operands. -/
def jumpPair : List (List Byte × Instr × Pair) :=
  [([0xE9], .jp_mhl, .hl),
   ([0xDD, 0xE9], .jp_mix, .ix),
   ([0xFD, 0xE9], .jp_miy, .iy)]

/-- `ld sp,hl`, `ld sp,ix`, `ld sp,iy` (R144, R145): bytes, instruction, operands. -/
def loadSp : List (List Byte × Instr × Pair) :=
  [([0xF9], .ld_sp_hl, .hl),
   ([0xDD, 0xF9], .ld_sp_ix, .ix),
   ([0xFD, 0xF9], .ld_sp_iy, .iy)]

/-- Rotates and shifts of a register (R345 to R352): bytes, instruction, operands. -/
def rotReg : List (List Byte × Instr × RotOp × Reg8) :=
  ([([0xCB, 0x00], .rlc_b, .rlc, .b),
   ([0xCB, 0x01], .rlc_c, .rlc, .c),
   ([0xCB, 0x02], .rlc_d, .rlc, .d),
   ([0xCB, 0x03], .rlc_e, .rlc, .e),
   ([0xCB, 0x04], .rlc_h, .rlc, .h),
   ([0xCB, 0x05], .rlc_l, .rlc, .l),
   ([0xCB, 0x07], .rlc_a, .rlc, .a),
   ([0xCB, 0x08], .rrc_b, .rrc, .b),
   ([0xCB, 0x09], .rrc_c, .rrc, .c),
   ([0xCB, 0x0A], .rrc_d, .rrc, .d),
   ([0xCB, 0x0B], .rrc_e, .rrc, .e),
   ([0xCB, 0x0C], .rrc_h, .rrc, .h),
   ([0xCB, 0x0D], .rrc_l, .rrc, .l),
   ([0xCB, 0x0F], .rrc_a, .rrc, .a),
   ([0xCB, 0x10], .rl_b, .rl, .b),
   ([0xCB, 0x11], .rl_c, .rl, .c),
   ([0xCB, 0x12], .rl_d, .rl, .d),
   ([0xCB, 0x13], .rl_e, .rl, .e),
   ([0xCB, 0x14], .rl_h, .rl, .h),
   ([0xCB, 0x15], .rl_l, .rl, .l)] : List (List Byte × Instr × RotOp × Reg8)) ++
  ([([0xCB, 0x17], .rl_a, .rl, .a),
   ([0xCB, 0x18], .rr_b, .rr, .b),
   ([0xCB, 0x19], .rr_c, .rr, .c),
   ([0xCB, 0x1A], .rr_d, .rr, .d),
   ([0xCB, 0x1B], .rr_e, .rr, .e),
   ([0xCB, 0x1C], .rr_h, .rr, .h),
   ([0xCB, 0x1D], .rr_l, .rr, .l),
   ([0xCB, 0x1F], .rr_a, .rr, .a),
   ([0xCB, 0x20], .sla_b, .sla, .b),
   ([0xCB, 0x21], .sla_c, .sla, .c),
   ([0xCB, 0x22], .sla_d, .sla, .d),
   ([0xCB, 0x23], .sla_e, .sla, .e),
   ([0xCB, 0x24], .sla_h, .sla, .h),
   ([0xCB, 0x25], .sla_l, .sla, .l),
   ([0xCB, 0x27], .sla_a, .sla, .a),
   ([0xCB, 0x28], .sra_b, .sra, .b),
   ([0xCB, 0x29], .sra_c, .sra, .c),
   ([0xCB, 0x2A], .sra_d, .sra, .d),
   ([0xCB, 0x2B], .sra_e, .sra, .e),
   ([0xCB, 0x2C], .sra_h, .sra, .h)] : List (List Byte × Instr × RotOp × Reg8)) ++
  ([([0xCB, 0x2D], .sra_l, .sra, .l),
   ([0xCB, 0x2F], .sra_a, .sra, .a),
   ([0xCB, 0x30], .sll_b, .sll, .b),
   ([0xCB, 0x31], .sll_c, .sll, .c),
   ([0xCB, 0x32], .sll_d, .sll, .d),
   ([0xCB, 0x33], .sll_e, .sll, .e),
   ([0xCB, 0x34], .sll_h, .sll, .h),
   ([0xCB, 0x35], .sll_l, .sll, .l),
   ([0xCB, 0x37], .sll_a, .sll, .a),
   ([0xCB, 0x38], .srl_b, .srl, .b),
   ([0xCB, 0x39], .srl_c, .srl, .c),
   ([0xCB, 0x3A], .srl_d, .srl, .d),
   ([0xCB, 0x3B], .srl_e, .srl, .e),
   ([0xCB, 0x3C], .srl_h, .srl, .h),
   ([0xCB, 0x3D], .srl_l, .srl, .l),
   ([0xCB, 0x3F], .srl_a, .srl, .a)] : List (List Byte × Instr × RotOp × Reg8))

/-- Rotates and shifts of a memory byte, with the register copied into (R345 to R352): bytes, instruction, operands. -/
def rotMem (d : Byte) : List (List Byte × Instr × RotOp × Loc × Option Reg8) :=
  ([([0xCB, 0x06], .rlc_mhl, .rlc, .hl, none),
   ([0xCB, 0x0E], .rrc_mhl, .rrc, .hl, none),
   ([0xCB, 0x16], .rl_mhl, .rl, .hl, none),
   ([0xCB, 0x1E], .rr_mhl, .rr, .hl, none),
   ([0xCB, 0x26], .sla_mhl, .sla, .hl, none),
   ([0xCB, 0x2E], .sra_mhl, .sra, .hl, none),
   ([0xCB, 0x36], .sll_mhl, .sll, .hl, none),
   ([0xCB, 0x3E], .srl_mhl, .srl, .hl, none),
   ([0xDD, 0xCB, d, 0x00], .rlc_mixd_b d, .rlc, (.idx .ix d), some .b),
   ([0xDD, 0xCB, d, 0x01], .rlc_mixd_c d, .rlc, (.idx .ix d), some .c),
   ([0xDD, 0xCB, d, 0x02], .rlc_mixd_d d, .rlc, (.idx .ix d), some .d),
   ([0xDD, 0xCB, d, 0x03], .rlc_mixd_e d, .rlc, (.idx .ix d), some .e),
   ([0xDD, 0xCB, d, 0x04], .rlc_mixd_h d, .rlc, (.idx .ix d), some .h),
   ([0xDD, 0xCB, d, 0x05], .rlc_mixd_l d, .rlc, (.idx .ix d), some .l),
   ([0xDD, 0xCB, d, 0x06], .rlc_mixd d, .rlc, (.idx .ix d), none),
   ([0xDD, 0xCB, d, 0x07], .rlc_mixd_a d, .rlc, (.idx .ix d), some .a),
   ([0xDD, 0xCB, d, 0x08], .rrc_mixd_b d, .rrc, (.idx .ix d), some .b),
   ([0xDD, 0xCB, d, 0x09], .rrc_mixd_c d, .rrc, (.idx .ix d), some .c),
   ([0xDD, 0xCB, d, 0x0A], .rrc_mixd_d d, .rrc, (.idx .ix d), some .d),
   ([0xDD, 0xCB, d, 0x0B], .rrc_mixd_e d, .rrc, (.idx .ix d), some .e)] : List (List Byte × Instr × RotOp × Loc × Option Reg8)) ++
  ([([0xDD, 0xCB, d, 0x0C], .rrc_mixd_h d, .rrc, (.idx .ix d), some .h),
   ([0xDD, 0xCB, d, 0x0D], .rrc_mixd_l d, .rrc, (.idx .ix d), some .l),
   ([0xDD, 0xCB, d, 0x0E], .rrc_mixd d, .rrc, (.idx .ix d), none),
   ([0xDD, 0xCB, d, 0x0F], .rrc_mixd_a d, .rrc, (.idx .ix d), some .a),
   ([0xDD, 0xCB, d, 0x10], .rl_mixd_b d, .rl, (.idx .ix d), some .b),
   ([0xDD, 0xCB, d, 0x11], .rl_mixd_c d, .rl, (.idx .ix d), some .c),
   ([0xDD, 0xCB, d, 0x12], .rl_mixd_d d, .rl, (.idx .ix d), some .d),
   ([0xDD, 0xCB, d, 0x13], .rl_mixd_e d, .rl, (.idx .ix d), some .e),
   ([0xDD, 0xCB, d, 0x14], .rl_mixd_h d, .rl, (.idx .ix d), some .h),
   ([0xDD, 0xCB, d, 0x15], .rl_mixd_l d, .rl, (.idx .ix d), some .l),
   ([0xDD, 0xCB, d, 0x16], .rl_mixd d, .rl, (.idx .ix d), none),
   ([0xDD, 0xCB, d, 0x17], .rl_mixd_a d, .rl, (.idx .ix d), some .a),
   ([0xDD, 0xCB, d, 0x18], .rr_mixd_b d, .rr, (.idx .ix d), some .b),
   ([0xDD, 0xCB, d, 0x19], .rr_mixd_c d, .rr, (.idx .ix d), some .c),
   ([0xDD, 0xCB, d, 0x1A], .rr_mixd_d d, .rr, (.idx .ix d), some .d),
   ([0xDD, 0xCB, d, 0x1B], .rr_mixd_e d, .rr, (.idx .ix d), some .e),
   ([0xDD, 0xCB, d, 0x1C], .rr_mixd_h d, .rr, (.idx .ix d), some .h),
   ([0xDD, 0xCB, d, 0x1D], .rr_mixd_l d, .rr, (.idx .ix d), some .l),
   ([0xDD, 0xCB, d, 0x1E], .rr_mixd d, .rr, (.idx .ix d), none),
   ([0xDD, 0xCB, d, 0x1F], .rr_mixd_a d, .rr, (.idx .ix d), some .a)] : List (List Byte × Instr × RotOp × Loc × Option Reg8)) ++
  ([([0xDD, 0xCB, d, 0x20], .sla_mixd_b d, .sla, (.idx .ix d), some .b),
   ([0xDD, 0xCB, d, 0x21], .sla_mixd_c d, .sla, (.idx .ix d), some .c),
   ([0xDD, 0xCB, d, 0x22], .sla_mixd_d d, .sla, (.idx .ix d), some .d),
   ([0xDD, 0xCB, d, 0x23], .sla_mixd_e d, .sla, (.idx .ix d), some .e),
   ([0xDD, 0xCB, d, 0x24], .sla_mixd_h d, .sla, (.idx .ix d), some .h),
   ([0xDD, 0xCB, d, 0x25], .sla_mixd_l d, .sla, (.idx .ix d), some .l),
   ([0xDD, 0xCB, d, 0x26], .sla_mixd d, .sla, (.idx .ix d), none),
   ([0xDD, 0xCB, d, 0x27], .sla_mixd_a d, .sla, (.idx .ix d), some .a),
   ([0xDD, 0xCB, d, 0x28], .sra_mixd_b d, .sra, (.idx .ix d), some .b),
   ([0xDD, 0xCB, d, 0x29], .sra_mixd_c d, .sra, (.idx .ix d), some .c),
   ([0xDD, 0xCB, d, 0x2A], .sra_mixd_d d, .sra, (.idx .ix d), some .d),
   ([0xDD, 0xCB, d, 0x2B], .sra_mixd_e d, .sra, (.idx .ix d), some .e),
   ([0xDD, 0xCB, d, 0x2C], .sra_mixd_h d, .sra, (.idx .ix d), some .h),
   ([0xDD, 0xCB, d, 0x2D], .sra_mixd_l d, .sra, (.idx .ix d), some .l),
   ([0xDD, 0xCB, d, 0x2E], .sra_mixd d, .sra, (.idx .ix d), none),
   ([0xDD, 0xCB, d, 0x2F], .sra_mixd_a d, .sra, (.idx .ix d), some .a),
   ([0xDD, 0xCB, d, 0x30], .sll_mixd_b d, .sll, (.idx .ix d), some .b),
   ([0xDD, 0xCB, d, 0x31], .sll_mixd_c d, .sll, (.idx .ix d), some .c),
   ([0xDD, 0xCB, d, 0x32], .sll_mixd_d d, .sll, (.idx .ix d), some .d),
   ([0xDD, 0xCB, d, 0x33], .sll_mixd_e d, .sll, (.idx .ix d), some .e)] : List (List Byte × Instr × RotOp × Loc × Option Reg8)) ++
  ([([0xDD, 0xCB, d, 0x34], .sll_mixd_h d, .sll, (.idx .ix d), some .h),
   ([0xDD, 0xCB, d, 0x35], .sll_mixd_l d, .sll, (.idx .ix d), some .l),
   ([0xDD, 0xCB, d, 0x36], .sll_mixd d, .sll, (.idx .ix d), none),
   ([0xDD, 0xCB, d, 0x37], .sll_mixd_a d, .sll, (.idx .ix d), some .a),
   ([0xDD, 0xCB, d, 0x38], .srl_mixd_b d, .srl, (.idx .ix d), some .b),
   ([0xDD, 0xCB, d, 0x39], .srl_mixd_c d, .srl, (.idx .ix d), some .c),
   ([0xDD, 0xCB, d, 0x3A], .srl_mixd_d d, .srl, (.idx .ix d), some .d),
   ([0xDD, 0xCB, d, 0x3B], .srl_mixd_e d, .srl, (.idx .ix d), some .e),
   ([0xDD, 0xCB, d, 0x3C], .srl_mixd_h d, .srl, (.idx .ix d), some .h),
   ([0xDD, 0xCB, d, 0x3D], .srl_mixd_l d, .srl, (.idx .ix d), some .l),
   ([0xDD, 0xCB, d, 0x3E], .srl_mixd d, .srl, (.idx .ix d), none),
   ([0xDD, 0xCB, d, 0x3F], .srl_mixd_a d, .srl, (.idx .ix d), some .a),
   ([0xFD, 0xCB, d, 0x00], .rlc_miyd_b d, .rlc, (.idx .iy d), some .b),
   ([0xFD, 0xCB, d, 0x01], .rlc_miyd_c d, .rlc, (.idx .iy d), some .c),
   ([0xFD, 0xCB, d, 0x02], .rlc_miyd_d d, .rlc, (.idx .iy d), some .d),
   ([0xFD, 0xCB, d, 0x03], .rlc_miyd_e d, .rlc, (.idx .iy d), some .e),
   ([0xFD, 0xCB, d, 0x04], .rlc_miyd_h d, .rlc, (.idx .iy d), some .h),
   ([0xFD, 0xCB, d, 0x05], .rlc_miyd_l d, .rlc, (.idx .iy d), some .l),
   ([0xFD, 0xCB, d, 0x06], .rlc_miyd d, .rlc, (.idx .iy d), none),
   ([0xFD, 0xCB, d, 0x07], .rlc_miyd_a d, .rlc, (.idx .iy d), some .a)] : List (List Byte × Instr × RotOp × Loc × Option Reg8)) ++
  ([([0xFD, 0xCB, d, 0x08], .rrc_miyd_b d, .rrc, (.idx .iy d), some .b),
   ([0xFD, 0xCB, d, 0x09], .rrc_miyd_c d, .rrc, (.idx .iy d), some .c),
   ([0xFD, 0xCB, d, 0x0A], .rrc_miyd_d d, .rrc, (.idx .iy d), some .d),
   ([0xFD, 0xCB, d, 0x0B], .rrc_miyd_e d, .rrc, (.idx .iy d), some .e),
   ([0xFD, 0xCB, d, 0x0C], .rrc_miyd_h d, .rrc, (.idx .iy d), some .h),
   ([0xFD, 0xCB, d, 0x0D], .rrc_miyd_l d, .rrc, (.idx .iy d), some .l),
   ([0xFD, 0xCB, d, 0x0E], .rrc_miyd d, .rrc, (.idx .iy d), none),
   ([0xFD, 0xCB, d, 0x0F], .rrc_miyd_a d, .rrc, (.idx .iy d), some .a),
   ([0xFD, 0xCB, d, 0x10], .rl_miyd_b d, .rl, (.idx .iy d), some .b),
   ([0xFD, 0xCB, d, 0x11], .rl_miyd_c d, .rl, (.idx .iy d), some .c),
   ([0xFD, 0xCB, d, 0x12], .rl_miyd_d d, .rl, (.idx .iy d), some .d),
   ([0xFD, 0xCB, d, 0x13], .rl_miyd_e d, .rl, (.idx .iy d), some .e),
   ([0xFD, 0xCB, d, 0x14], .rl_miyd_h d, .rl, (.idx .iy d), some .h),
   ([0xFD, 0xCB, d, 0x15], .rl_miyd_l d, .rl, (.idx .iy d), some .l),
   ([0xFD, 0xCB, d, 0x16], .rl_miyd d, .rl, (.idx .iy d), none),
   ([0xFD, 0xCB, d, 0x17], .rl_miyd_a d, .rl, (.idx .iy d), some .a),
   ([0xFD, 0xCB, d, 0x18], .rr_miyd_b d, .rr, (.idx .iy d), some .b),
   ([0xFD, 0xCB, d, 0x19], .rr_miyd_c d, .rr, (.idx .iy d), some .c),
   ([0xFD, 0xCB, d, 0x1A], .rr_miyd_d d, .rr, (.idx .iy d), some .d),
   ([0xFD, 0xCB, d, 0x1B], .rr_miyd_e d, .rr, (.idx .iy d), some .e)] : List (List Byte × Instr × RotOp × Loc × Option Reg8)) ++
  ([([0xFD, 0xCB, d, 0x1C], .rr_miyd_h d, .rr, (.idx .iy d), some .h),
   ([0xFD, 0xCB, d, 0x1D], .rr_miyd_l d, .rr, (.idx .iy d), some .l),
   ([0xFD, 0xCB, d, 0x1E], .rr_miyd d, .rr, (.idx .iy d), none),
   ([0xFD, 0xCB, d, 0x1F], .rr_miyd_a d, .rr, (.idx .iy d), some .a),
   ([0xFD, 0xCB, d, 0x20], .sla_miyd_b d, .sla, (.idx .iy d), some .b),
   ([0xFD, 0xCB, d, 0x21], .sla_miyd_c d, .sla, (.idx .iy d), some .c),
   ([0xFD, 0xCB, d, 0x22], .sla_miyd_d d, .sla, (.idx .iy d), some .d),
   ([0xFD, 0xCB, d, 0x23], .sla_miyd_e d, .sla, (.idx .iy d), some .e),
   ([0xFD, 0xCB, d, 0x24], .sla_miyd_h d, .sla, (.idx .iy d), some .h),
   ([0xFD, 0xCB, d, 0x25], .sla_miyd_l d, .sla, (.idx .iy d), some .l),
   ([0xFD, 0xCB, d, 0x26], .sla_miyd d, .sla, (.idx .iy d), none),
   ([0xFD, 0xCB, d, 0x27], .sla_miyd_a d, .sla, (.idx .iy d), some .a),
   ([0xFD, 0xCB, d, 0x28], .sra_miyd_b d, .sra, (.idx .iy d), some .b),
   ([0xFD, 0xCB, d, 0x29], .sra_miyd_c d, .sra, (.idx .iy d), some .c),
   ([0xFD, 0xCB, d, 0x2A], .sra_miyd_d d, .sra, (.idx .iy d), some .d),
   ([0xFD, 0xCB, d, 0x2B], .sra_miyd_e d, .sra, (.idx .iy d), some .e),
   ([0xFD, 0xCB, d, 0x2C], .sra_miyd_h d, .sra, (.idx .iy d), some .h),
   ([0xFD, 0xCB, d, 0x2D], .sra_miyd_l d, .sra, (.idx .iy d), some .l),
   ([0xFD, 0xCB, d, 0x2E], .sra_miyd d, .sra, (.idx .iy d), none),
   ([0xFD, 0xCB, d, 0x2F], .sra_miyd_a d, .sra, (.idx .iy d), some .a)] : List (List Byte × Instr × RotOp × Loc × Option Reg8)) ++
  ([([0xFD, 0xCB, d, 0x30], .sll_miyd_b d, .sll, (.idx .iy d), some .b),
   ([0xFD, 0xCB, d, 0x31], .sll_miyd_c d, .sll, (.idx .iy d), some .c),
   ([0xFD, 0xCB, d, 0x32], .sll_miyd_d d, .sll, (.idx .iy d), some .d),
   ([0xFD, 0xCB, d, 0x33], .sll_miyd_e d, .sll, (.idx .iy d), some .e),
   ([0xFD, 0xCB, d, 0x34], .sll_miyd_h d, .sll, (.idx .iy d), some .h),
   ([0xFD, 0xCB, d, 0x35], .sll_miyd_l d, .sll, (.idx .iy d), some .l),
   ([0xFD, 0xCB, d, 0x36], .sll_miyd d, .sll, (.idx .iy d), none),
   ([0xFD, 0xCB, d, 0x37], .sll_miyd_a d, .sll, (.idx .iy d), some .a),
   ([0xFD, 0xCB, d, 0x38], .srl_miyd_b d, .srl, (.idx .iy d), some .b),
   ([0xFD, 0xCB, d, 0x39], .srl_miyd_c d, .srl, (.idx .iy d), some .c),
   ([0xFD, 0xCB, d, 0x3A], .srl_miyd_d d, .srl, (.idx .iy d), some .d),
   ([0xFD, 0xCB, d, 0x3B], .srl_miyd_e d, .srl, (.idx .iy d), some .e),
   ([0xFD, 0xCB, d, 0x3C], .srl_miyd_h d, .srl, (.idx .iy d), some .h),
   ([0xFD, 0xCB, d, 0x3D], .srl_miyd_l d, .srl, (.idx .iy d), some .l),
   ([0xFD, 0xCB, d, 0x3E], .srl_miyd d, .srl, (.idx .iy d), none),
   ([0xFD, 0xCB, d, 0x3F], .srl_miyd_a d, .srl, (.idx .iy d), some .a)] : List (List Byte × Instr × RotOp × Loc × Option Reg8))

/-- `bit b,r` (R290): bytes, instruction, operands. -/
def bitReg : List (List Byte × Instr × Nat × Reg8) :=
  ([([0xCB, 0x40], .bit_0_b, 0, .b),
   ([0xCB, 0x41], .bit_0_c, 0, .c),
   ([0xCB, 0x42], .bit_0_d, 0, .d),
   ([0xCB, 0x43], .bit_0_e, 0, .e),
   ([0xCB, 0x44], .bit_0_h, 0, .h),
   ([0xCB, 0x45], .bit_0_l, 0, .l),
   ([0xCB, 0x47], .bit_0_a, 0, .a),
   ([0xCB, 0x48], .bit_1_b, 1, .b),
   ([0xCB, 0x49], .bit_1_c, 1, .c),
   ([0xCB, 0x4A], .bit_1_d, 1, .d),
   ([0xCB, 0x4B], .bit_1_e, 1, .e),
   ([0xCB, 0x4C], .bit_1_h, 1, .h),
   ([0xCB, 0x4D], .bit_1_l, 1, .l),
   ([0xCB, 0x4F], .bit_1_a, 1, .a),
   ([0xCB, 0x50], .bit_2_b, 2, .b),
   ([0xCB, 0x51], .bit_2_c, 2, .c),
   ([0xCB, 0x52], .bit_2_d, 2, .d),
   ([0xCB, 0x53], .bit_2_e, 2, .e),
   ([0xCB, 0x54], .bit_2_h, 2, .h),
   ([0xCB, 0x55], .bit_2_l, 2, .l)] : List (List Byte × Instr × Nat × Reg8)) ++
  ([([0xCB, 0x57], .bit_2_a, 2, .a),
   ([0xCB, 0x58], .bit_3_b, 3, .b),
   ([0xCB, 0x59], .bit_3_c, 3, .c),
   ([0xCB, 0x5A], .bit_3_d, 3, .d),
   ([0xCB, 0x5B], .bit_3_e, 3, .e),
   ([0xCB, 0x5C], .bit_3_h, 3, .h),
   ([0xCB, 0x5D], .bit_3_l, 3, .l),
   ([0xCB, 0x5F], .bit_3_a, 3, .a),
   ([0xCB, 0x60], .bit_4_b, 4, .b),
   ([0xCB, 0x61], .bit_4_c, 4, .c),
   ([0xCB, 0x62], .bit_4_d, 4, .d),
   ([0xCB, 0x63], .bit_4_e, 4, .e),
   ([0xCB, 0x64], .bit_4_h, 4, .h),
   ([0xCB, 0x65], .bit_4_l, 4, .l),
   ([0xCB, 0x67], .bit_4_a, 4, .a),
   ([0xCB, 0x68], .bit_5_b, 5, .b),
   ([0xCB, 0x69], .bit_5_c, 5, .c),
   ([0xCB, 0x6A], .bit_5_d, 5, .d),
   ([0xCB, 0x6B], .bit_5_e, 5, .e),
   ([0xCB, 0x6C], .bit_5_h, 5, .h)] : List (List Byte × Instr × Nat × Reg8)) ++
  ([([0xCB, 0x6D], .bit_5_l, 5, .l),
   ([0xCB, 0x6F], .bit_5_a, 5, .a),
   ([0xCB, 0x70], .bit_6_b, 6, .b),
   ([0xCB, 0x71], .bit_6_c, 6, .c),
   ([0xCB, 0x72], .bit_6_d, 6, .d),
   ([0xCB, 0x73], .bit_6_e, 6, .e),
   ([0xCB, 0x74], .bit_6_h, 6, .h),
   ([0xCB, 0x75], .bit_6_l, 6, .l),
   ([0xCB, 0x77], .bit_6_a, 6, .a),
   ([0xCB, 0x78], .bit_7_b, 7, .b),
   ([0xCB, 0x79], .bit_7_c, 7, .c),
   ([0xCB, 0x7A], .bit_7_d, 7, .d),
   ([0xCB, 0x7B], .bit_7_e, 7, .e),
   ([0xCB, 0x7C], .bit_7_h, 7, .h),
   ([0xCB, 0x7D], .bit_7_l, 7, .l),
   ([0xCB, 0x7F], .bit_7_a, 7, .a)] : List (List Byte × Instr × Nat × Reg8))

/-- `bit b,(hl)` (R291): bytes, instruction, operands. -/
def bitHl : List (List Byte × Instr × Nat) :=
  [([0xCB, 0x46], .bit_0_mhl, 0),
   ([0xCB, 0x4E], .bit_1_mhl, 1),
   ([0xCB, 0x56], .bit_2_mhl, 2),
   ([0xCB, 0x5E], .bit_3_mhl, 3),
   ([0xCB, 0x66], .bit_4_mhl, 4),
   ([0xCB, 0x6E], .bit_5_mhl, 5),
   ([0xCB, 0x76], .bit_6_mhl, 6),
   ([0xCB, 0x7E], .bit_7_mhl, 7)]

/-- `res b,r` (R296): bytes, instruction, operands. -/
def resReg : List (List Byte × Instr × Nat × Reg8) :=
  ([([0xCB, 0x80], .res_0_b, 0, .b),
   ([0xCB, 0x81], .res_0_c, 0, .c),
   ([0xCB, 0x82], .res_0_d, 0, .d),
   ([0xCB, 0x83], .res_0_e, 0, .e),
   ([0xCB, 0x84], .res_0_h, 0, .h),
   ([0xCB, 0x85], .res_0_l, 0, .l),
   ([0xCB, 0x87], .res_0_a, 0, .a),
   ([0xCB, 0x88], .res_1_b, 1, .b),
   ([0xCB, 0x89], .res_1_c, 1, .c),
   ([0xCB, 0x8A], .res_1_d, 1, .d),
   ([0xCB, 0x8B], .res_1_e, 1, .e),
   ([0xCB, 0x8C], .res_1_h, 1, .h),
   ([0xCB, 0x8D], .res_1_l, 1, .l),
   ([0xCB, 0x8F], .res_1_a, 1, .a),
   ([0xCB, 0x90], .res_2_b, 2, .b),
   ([0xCB, 0x91], .res_2_c, 2, .c),
   ([0xCB, 0x92], .res_2_d, 2, .d),
   ([0xCB, 0x93], .res_2_e, 2, .e),
   ([0xCB, 0x94], .res_2_h, 2, .h),
   ([0xCB, 0x95], .res_2_l, 2, .l)] : List (List Byte × Instr × Nat × Reg8)) ++
  ([([0xCB, 0x97], .res_2_a, 2, .a),
   ([0xCB, 0x98], .res_3_b, 3, .b),
   ([0xCB, 0x99], .res_3_c, 3, .c),
   ([0xCB, 0x9A], .res_3_d, 3, .d),
   ([0xCB, 0x9B], .res_3_e, 3, .e),
   ([0xCB, 0x9C], .res_3_h, 3, .h),
   ([0xCB, 0x9D], .res_3_l, 3, .l),
   ([0xCB, 0x9F], .res_3_a, 3, .a),
   ([0xCB, 0xA0], .res_4_b, 4, .b),
   ([0xCB, 0xA1], .res_4_c, 4, .c),
   ([0xCB, 0xA2], .res_4_d, 4, .d),
   ([0xCB, 0xA3], .res_4_e, 4, .e),
   ([0xCB, 0xA4], .res_4_h, 4, .h),
   ([0xCB, 0xA5], .res_4_l, 4, .l),
   ([0xCB, 0xA7], .res_4_a, 4, .a),
   ([0xCB, 0xA8], .res_5_b, 5, .b),
   ([0xCB, 0xA9], .res_5_c, 5, .c),
   ([0xCB, 0xAA], .res_5_d, 5, .d),
   ([0xCB, 0xAB], .res_5_e, 5, .e),
   ([0xCB, 0xAC], .res_5_h, 5, .h)] : List (List Byte × Instr × Nat × Reg8)) ++
  ([([0xCB, 0xAD], .res_5_l, 5, .l),
   ([0xCB, 0xAF], .res_5_a, 5, .a),
   ([0xCB, 0xB0], .res_6_b, 6, .b),
   ([0xCB, 0xB1], .res_6_c, 6, .c),
   ([0xCB, 0xB2], .res_6_d, 6, .d),
   ([0xCB, 0xB3], .res_6_e, 6, .e),
   ([0xCB, 0xB4], .res_6_h, 6, .h),
   ([0xCB, 0xB5], .res_6_l, 6, .l),
   ([0xCB, 0xB7], .res_6_a, 6, .a),
   ([0xCB, 0xB8], .res_7_b, 7, .b),
   ([0xCB, 0xB9], .res_7_c, 7, .c),
   ([0xCB, 0xBA], .res_7_d, 7, .d),
   ([0xCB, 0xBB], .res_7_e, 7, .e),
   ([0xCB, 0xBC], .res_7_h, 7, .h),
   ([0xCB, 0xBD], .res_7_l, 7, .l),
   ([0xCB, 0xBF], .res_7_a, 7, .a)] : List (List Byte × Instr × Nat × Reg8))

/-- `res` of a memory byte, with the register copied into (R297, R298): bytes, instruction, operands. -/
def resMem (d : Byte) : List (List Byte × Instr × Nat × Loc × Option Reg8) :=
  ([([0xCB, 0x86], .res_0_mhl, 0, .hl, none),
   ([0xCB, 0x8E], .res_1_mhl, 1, .hl, none),
   ([0xCB, 0x96], .res_2_mhl, 2, .hl, none),
   ([0xCB, 0x9E], .res_3_mhl, 3, .hl, none),
   ([0xCB, 0xA6], .res_4_mhl, 4, .hl, none),
   ([0xCB, 0xAE], .res_5_mhl, 5, .hl, none),
   ([0xCB, 0xB6], .res_6_mhl, 6, .hl, none),
   ([0xCB, 0xBE], .res_7_mhl, 7, .hl, none),
   ([0xDD, 0xCB, d, 0x80], .res_0_mixd_b d, 0, (.idx .ix d), some .b),
   ([0xDD, 0xCB, d, 0x81], .res_0_mixd_c d, 0, (.idx .ix d), some .c),
   ([0xDD, 0xCB, d, 0x82], .res_0_mixd_d d, 0, (.idx .ix d), some .d),
   ([0xDD, 0xCB, d, 0x83], .res_0_mixd_e d, 0, (.idx .ix d), some .e),
   ([0xDD, 0xCB, d, 0x84], .res_0_mixd_h d, 0, (.idx .ix d), some .h),
   ([0xDD, 0xCB, d, 0x85], .res_0_mixd_l d, 0, (.idx .ix d), some .l),
   ([0xDD, 0xCB, d, 0x86], .res_0_mixd d, 0, (.idx .ix d), none),
   ([0xDD, 0xCB, d, 0x87], .res_0_mixd_a d, 0, (.idx .ix d), some .a),
   ([0xDD, 0xCB, d, 0x88], .res_1_mixd_b d, 1, (.idx .ix d), some .b),
   ([0xDD, 0xCB, d, 0x89], .res_1_mixd_c d, 1, (.idx .ix d), some .c),
   ([0xDD, 0xCB, d, 0x8A], .res_1_mixd_d d, 1, (.idx .ix d), some .d),
   ([0xDD, 0xCB, d, 0x8B], .res_1_mixd_e d, 1, (.idx .ix d), some .e)] : List (List Byte × Instr × Nat × Loc × Option Reg8)) ++
  ([([0xDD, 0xCB, d, 0x8C], .res_1_mixd_h d, 1, (.idx .ix d), some .h),
   ([0xDD, 0xCB, d, 0x8D], .res_1_mixd_l d, 1, (.idx .ix d), some .l),
   ([0xDD, 0xCB, d, 0x8E], .res_1_mixd d, 1, (.idx .ix d), none),
   ([0xDD, 0xCB, d, 0x8F], .res_1_mixd_a d, 1, (.idx .ix d), some .a),
   ([0xDD, 0xCB, d, 0x90], .res_2_mixd_b d, 2, (.idx .ix d), some .b),
   ([0xDD, 0xCB, d, 0x91], .res_2_mixd_c d, 2, (.idx .ix d), some .c),
   ([0xDD, 0xCB, d, 0x92], .res_2_mixd_d d, 2, (.idx .ix d), some .d),
   ([0xDD, 0xCB, d, 0x93], .res_2_mixd_e d, 2, (.idx .ix d), some .e),
   ([0xDD, 0xCB, d, 0x94], .res_2_mixd_h d, 2, (.idx .ix d), some .h),
   ([0xDD, 0xCB, d, 0x95], .res_2_mixd_l d, 2, (.idx .ix d), some .l),
   ([0xDD, 0xCB, d, 0x96], .res_2_mixd d, 2, (.idx .ix d), none),
   ([0xDD, 0xCB, d, 0x97], .res_2_mixd_a d, 2, (.idx .ix d), some .a),
   ([0xDD, 0xCB, d, 0x98], .res_3_mixd_b d, 3, (.idx .ix d), some .b),
   ([0xDD, 0xCB, d, 0x99], .res_3_mixd_c d, 3, (.idx .ix d), some .c),
   ([0xDD, 0xCB, d, 0x9A], .res_3_mixd_d d, 3, (.idx .ix d), some .d),
   ([0xDD, 0xCB, d, 0x9B], .res_3_mixd_e d, 3, (.idx .ix d), some .e),
   ([0xDD, 0xCB, d, 0x9C], .res_3_mixd_h d, 3, (.idx .ix d), some .h),
   ([0xDD, 0xCB, d, 0x9D], .res_3_mixd_l d, 3, (.idx .ix d), some .l),
   ([0xDD, 0xCB, d, 0x9E], .res_3_mixd d, 3, (.idx .ix d), none),
   ([0xDD, 0xCB, d, 0x9F], .res_3_mixd_a d, 3, (.idx .ix d), some .a)] : List (List Byte × Instr × Nat × Loc × Option Reg8)) ++
  ([([0xDD, 0xCB, d, 0xA0], .res_4_mixd_b d, 4, (.idx .ix d), some .b),
   ([0xDD, 0xCB, d, 0xA1], .res_4_mixd_c d, 4, (.idx .ix d), some .c),
   ([0xDD, 0xCB, d, 0xA2], .res_4_mixd_d d, 4, (.idx .ix d), some .d),
   ([0xDD, 0xCB, d, 0xA3], .res_4_mixd_e d, 4, (.idx .ix d), some .e),
   ([0xDD, 0xCB, d, 0xA4], .res_4_mixd_h d, 4, (.idx .ix d), some .h),
   ([0xDD, 0xCB, d, 0xA5], .res_4_mixd_l d, 4, (.idx .ix d), some .l),
   ([0xDD, 0xCB, d, 0xA6], .res_4_mixd d, 4, (.idx .ix d), none),
   ([0xDD, 0xCB, d, 0xA7], .res_4_mixd_a d, 4, (.idx .ix d), some .a),
   ([0xDD, 0xCB, d, 0xA8], .res_5_mixd_b d, 5, (.idx .ix d), some .b),
   ([0xDD, 0xCB, d, 0xA9], .res_5_mixd_c d, 5, (.idx .ix d), some .c),
   ([0xDD, 0xCB, d, 0xAA], .res_5_mixd_d d, 5, (.idx .ix d), some .d),
   ([0xDD, 0xCB, d, 0xAB], .res_5_mixd_e d, 5, (.idx .ix d), some .e),
   ([0xDD, 0xCB, d, 0xAC], .res_5_mixd_h d, 5, (.idx .ix d), some .h),
   ([0xDD, 0xCB, d, 0xAD], .res_5_mixd_l d, 5, (.idx .ix d), some .l),
   ([0xDD, 0xCB, d, 0xAE], .res_5_mixd d, 5, (.idx .ix d), none),
   ([0xDD, 0xCB, d, 0xAF], .res_5_mixd_a d, 5, (.idx .ix d), some .a),
   ([0xDD, 0xCB, d, 0xB0], .res_6_mixd_b d, 6, (.idx .ix d), some .b),
   ([0xDD, 0xCB, d, 0xB1], .res_6_mixd_c d, 6, (.idx .ix d), some .c),
   ([0xDD, 0xCB, d, 0xB2], .res_6_mixd_d d, 6, (.idx .ix d), some .d),
   ([0xDD, 0xCB, d, 0xB3], .res_6_mixd_e d, 6, (.idx .ix d), some .e)] : List (List Byte × Instr × Nat × Loc × Option Reg8)) ++
  ([([0xDD, 0xCB, d, 0xB4], .res_6_mixd_h d, 6, (.idx .ix d), some .h),
   ([0xDD, 0xCB, d, 0xB5], .res_6_mixd_l d, 6, (.idx .ix d), some .l),
   ([0xDD, 0xCB, d, 0xB6], .res_6_mixd d, 6, (.idx .ix d), none),
   ([0xDD, 0xCB, d, 0xB7], .res_6_mixd_a d, 6, (.idx .ix d), some .a),
   ([0xDD, 0xCB, d, 0xB8], .res_7_mixd_b d, 7, (.idx .ix d), some .b),
   ([0xDD, 0xCB, d, 0xB9], .res_7_mixd_c d, 7, (.idx .ix d), some .c),
   ([0xDD, 0xCB, d, 0xBA], .res_7_mixd_d d, 7, (.idx .ix d), some .d),
   ([0xDD, 0xCB, d, 0xBB], .res_7_mixd_e d, 7, (.idx .ix d), some .e),
   ([0xDD, 0xCB, d, 0xBC], .res_7_mixd_h d, 7, (.idx .ix d), some .h),
   ([0xDD, 0xCB, d, 0xBD], .res_7_mixd_l d, 7, (.idx .ix d), some .l),
   ([0xDD, 0xCB, d, 0xBE], .res_7_mixd d, 7, (.idx .ix d), none),
   ([0xDD, 0xCB, d, 0xBF], .res_7_mixd_a d, 7, (.idx .ix d), some .a),
   ([0xFD, 0xCB, d, 0x80], .res_0_miyd_b d, 0, (.idx .iy d), some .b),
   ([0xFD, 0xCB, d, 0x81], .res_0_miyd_c d, 0, (.idx .iy d), some .c),
   ([0xFD, 0xCB, d, 0x82], .res_0_miyd_d d, 0, (.idx .iy d), some .d),
   ([0xFD, 0xCB, d, 0x83], .res_0_miyd_e d, 0, (.idx .iy d), some .e),
   ([0xFD, 0xCB, d, 0x84], .res_0_miyd_h d, 0, (.idx .iy d), some .h),
   ([0xFD, 0xCB, d, 0x85], .res_0_miyd_l d, 0, (.idx .iy d), some .l),
   ([0xFD, 0xCB, d, 0x86], .res_0_miyd d, 0, (.idx .iy d), none),
   ([0xFD, 0xCB, d, 0x87], .res_0_miyd_a d, 0, (.idx .iy d), some .a)] : List (List Byte × Instr × Nat × Loc × Option Reg8)) ++
  ([([0xFD, 0xCB, d, 0x88], .res_1_miyd_b d, 1, (.idx .iy d), some .b),
   ([0xFD, 0xCB, d, 0x89], .res_1_miyd_c d, 1, (.idx .iy d), some .c),
   ([0xFD, 0xCB, d, 0x8A], .res_1_miyd_d d, 1, (.idx .iy d), some .d),
   ([0xFD, 0xCB, d, 0x8B], .res_1_miyd_e d, 1, (.idx .iy d), some .e),
   ([0xFD, 0xCB, d, 0x8C], .res_1_miyd_h d, 1, (.idx .iy d), some .h),
   ([0xFD, 0xCB, d, 0x8D], .res_1_miyd_l d, 1, (.idx .iy d), some .l),
   ([0xFD, 0xCB, d, 0x8E], .res_1_miyd d, 1, (.idx .iy d), none),
   ([0xFD, 0xCB, d, 0x8F], .res_1_miyd_a d, 1, (.idx .iy d), some .a),
   ([0xFD, 0xCB, d, 0x90], .res_2_miyd_b d, 2, (.idx .iy d), some .b),
   ([0xFD, 0xCB, d, 0x91], .res_2_miyd_c d, 2, (.idx .iy d), some .c),
   ([0xFD, 0xCB, d, 0x92], .res_2_miyd_d d, 2, (.idx .iy d), some .d),
   ([0xFD, 0xCB, d, 0x93], .res_2_miyd_e d, 2, (.idx .iy d), some .e),
   ([0xFD, 0xCB, d, 0x94], .res_2_miyd_h d, 2, (.idx .iy d), some .h),
   ([0xFD, 0xCB, d, 0x95], .res_2_miyd_l d, 2, (.idx .iy d), some .l),
   ([0xFD, 0xCB, d, 0x96], .res_2_miyd d, 2, (.idx .iy d), none),
   ([0xFD, 0xCB, d, 0x97], .res_2_miyd_a d, 2, (.idx .iy d), some .a),
   ([0xFD, 0xCB, d, 0x98], .res_3_miyd_b d, 3, (.idx .iy d), some .b),
   ([0xFD, 0xCB, d, 0x99], .res_3_miyd_c d, 3, (.idx .iy d), some .c),
   ([0xFD, 0xCB, d, 0x9A], .res_3_miyd_d d, 3, (.idx .iy d), some .d),
   ([0xFD, 0xCB, d, 0x9B], .res_3_miyd_e d, 3, (.idx .iy d), some .e)] : List (List Byte × Instr × Nat × Loc × Option Reg8)) ++
  ([([0xFD, 0xCB, d, 0x9C], .res_3_miyd_h d, 3, (.idx .iy d), some .h),
   ([0xFD, 0xCB, d, 0x9D], .res_3_miyd_l d, 3, (.idx .iy d), some .l),
   ([0xFD, 0xCB, d, 0x9E], .res_3_miyd d, 3, (.idx .iy d), none),
   ([0xFD, 0xCB, d, 0x9F], .res_3_miyd_a d, 3, (.idx .iy d), some .a),
   ([0xFD, 0xCB, d, 0xA0], .res_4_miyd_b d, 4, (.idx .iy d), some .b),
   ([0xFD, 0xCB, d, 0xA1], .res_4_miyd_c d, 4, (.idx .iy d), some .c),
   ([0xFD, 0xCB, d, 0xA2], .res_4_miyd_d d, 4, (.idx .iy d), some .d),
   ([0xFD, 0xCB, d, 0xA3], .res_4_miyd_e d, 4, (.idx .iy d), some .e),
   ([0xFD, 0xCB, d, 0xA4], .res_4_miyd_h d, 4, (.idx .iy d), some .h),
   ([0xFD, 0xCB, d, 0xA5], .res_4_miyd_l d, 4, (.idx .iy d), some .l),
   ([0xFD, 0xCB, d, 0xA6], .res_4_miyd d, 4, (.idx .iy d), none),
   ([0xFD, 0xCB, d, 0xA7], .res_4_miyd_a d, 4, (.idx .iy d), some .a),
   ([0xFD, 0xCB, d, 0xA8], .res_5_miyd_b d, 5, (.idx .iy d), some .b),
   ([0xFD, 0xCB, d, 0xA9], .res_5_miyd_c d, 5, (.idx .iy d), some .c),
   ([0xFD, 0xCB, d, 0xAA], .res_5_miyd_d d, 5, (.idx .iy d), some .d),
   ([0xFD, 0xCB, d, 0xAB], .res_5_miyd_e d, 5, (.idx .iy d), some .e),
   ([0xFD, 0xCB, d, 0xAC], .res_5_miyd_h d, 5, (.idx .iy d), some .h),
   ([0xFD, 0xCB, d, 0xAD], .res_5_miyd_l d, 5, (.idx .iy d), some .l),
   ([0xFD, 0xCB, d, 0xAE], .res_5_miyd d, 5, (.idx .iy d), none),
   ([0xFD, 0xCB, d, 0xAF], .res_5_miyd_a d, 5, (.idx .iy d), some .a)] : List (List Byte × Instr × Nat × Loc × Option Reg8)) ++
  ([([0xFD, 0xCB, d, 0xB0], .res_6_miyd_b d, 6, (.idx .iy d), some .b),
   ([0xFD, 0xCB, d, 0xB1], .res_6_miyd_c d, 6, (.idx .iy d), some .c),
   ([0xFD, 0xCB, d, 0xB2], .res_6_miyd_d d, 6, (.idx .iy d), some .d),
   ([0xFD, 0xCB, d, 0xB3], .res_6_miyd_e d, 6, (.idx .iy d), some .e),
   ([0xFD, 0xCB, d, 0xB4], .res_6_miyd_h d, 6, (.idx .iy d), some .h),
   ([0xFD, 0xCB, d, 0xB5], .res_6_miyd_l d, 6, (.idx .iy d), some .l),
   ([0xFD, 0xCB, d, 0xB6], .res_6_miyd d, 6, (.idx .iy d), none),
   ([0xFD, 0xCB, d, 0xB7], .res_6_miyd_a d, 6, (.idx .iy d), some .a),
   ([0xFD, 0xCB, d, 0xB8], .res_7_miyd_b d, 7, (.idx .iy d), some .b),
   ([0xFD, 0xCB, d, 0xB9], .res_7_miyd_c d, 7, (.idx .iy d), some .c),
   ([0xFD, 0xCB, d, 0xBA], .res_7_miyd_d d, 7, (.idx .iy d), some .d),
   ([0xFD, 0xCB, d, 0xBB], .res_7_miyd_e d, 7, (.idx .iy d), some .e),
   ([0xFD, 0xCB, d, 0xBC], .res_7_miyd_h d, 7, (.idx .iy d), some .h),
   ([0xFD, 0xCB, d, 0xBD], .res_7_miyd_l d, 7, (.idx .iy d), some .l),
   ([0xFD, 0xCB, d, 0xBE], .res_7_miyd d, 7, (.idx .iy d), none),
   ([0xFD, 0xCB, d, 0xBF], .res_7_miyd_a d, 7, (.idx .iy d), some .a)] : List (List Byte × Instr × Nat × Loc × Option Reg8))

/-- `set b,r` (R293): bytes, instruction, operands. -/
def setReg : List (List Byte × Instr × Nat × Reg8) :=
  ([([0xCB, 0xC0], .set_0_b, 0, .b),
   ([0xCB, 0xC1], .set_0_c, 0, .c),
   ([0xCB, 0xC2], .set_0_d, 0, .d),
   ([0xCB, 0xC3], .set_0_e, 0, .e),
   ([0xCB, 0xC4], .set_0_h, 0, .h),
   ([0xCB, 0xC5], .set_0_l, 0, .l),
   ([0xCB, 0xC7], .set_0_a, 0, .a),
   ([0xCB, 0xC8], .set_1_b, 1, .b),
   ([0xCB, 0xC9], .set_1_c, 1, .c),
   ([0xCB, 0xCA], .set_1_d, 1, .d),
   ([0xCB, 0xCB], .set_1_e, 1, .e),
   ([0xCB, 0xCC], .set_1_h, 1, .h),
   ([0xCB, 0xCD], .set_1_l, 1, .l),
   ([0xCB, 0xCF], .set_1_a, 1, .a),
   ([0xCB, 0xD0], .set_2_b, 2, .b),
   ([0xCB, 0xD1], .set_2_c, 2, .c),
   ([0xCB, 0xD2], .set_2_d, 2, .d),
   ([0xCB, 0xD3], .set_2_e, 2, .e),
   ([0xCB, 0xD4], .set_2_h, 2, .h),
   ([0xCB, 0xD5], .set_2_l, 2, .l)] : List (List Byte × Instr × Nat × Reg8)) ++
  ([([0xCB, 0xD7], .set_2_a, 2, .a),
   ([0xCB, 0xD8], .set_3_b, 3, .b),
   ([0xCB, 0xD9], .set_3_c, 3, .c),
   ([0xCB, 0xDA], .set_3_d, 3, .d),
   ([0xCB, 0xDB], .set_3_e, 3, .e),
   ([0xCB, 0xDC], .set_3_h, 3, .h),
   ([0xCB, 0xDD], .set_3_l, 3, .l),
   ([0xCB, 0xDF], .set_3_a, 3, .a),
   ([0xCB, 0xE0], .set_4_b, 4, .b),
   ([0xCB, 0xE1], .set_4_c, 4, .c),
   ([0xCB, 0xE2], .set_4_d, 4, .d),
   ([0xCB, 0xE3], .set_4_e, 4, .e),
   ([0xCB, 0xE4], .set_4_h, 4, .h),
   ([0xCB, 0xE5], .set_4_l, 4, .l),
   ([0xCB, 0xE7], .set_4_a, 4, .a),
   ([0xCB, 0xE8], .set_5_b, 5, .b),
   ([0xCB, 0xE9], .set_5_c, 5, .c),
   ([0xCB, 0xEA], .set_5_d, 5, .d),
   ([0xCB, 0xEB], .set_5_e, 5, .e),
   ([0xCB, 0xEC], .set_5_h, 5, .h)] : List (List Byte × Instr × Nat × Reg8)) ++
  ([([0xCB, 0xED], .set_5_l, 5, .l),
   ([0xCB, 0xEF], .set_5_a, 5, .a),
   ([0xCB, 0xF0], .set_6_b, 6, .b),
   ([0xCB, 0xF1], .set_6_c, 6, .c),
   ([0xCB, 0xF2], .set_6_d, 6, .d),
   ([0xCB, 0xF3], .set_6_e, 6, .e),
   ([0xCB, 0xF4], .set_6_h, 6, .h),
   ([0xCB, 0xF5], .set_6_l, 6, .l),
   ([0xCB, 0xF7], .set_6_a, 6, .a),
   ([0xCB, 0xF8], .set_7_b, 7, .b),
   ([0xCB, 0xF9], .set_7_c, 7, .c),
   ([0xCB, 0xFA], .set_7_d, 7, .d),
   ([0xCB, 0xFB], .set_7_e, 7, .e),
   ([0xCB, 0xFC], .set_7_h, 7, .h),
   ([0xCB, 0xFD], .set_7_l, 7, .l),
   ([0xCB, 0xFF], .set_7_a, 7, .a)] : List (List Byte × Instr × Nat × Reg8))

/-- `set` of a memory byte, with the register copied into (R294, R295): bytes, instruction, operands. -/
def setMem (d : Byte) : List (List Byte × Instr × Nat × Loc × Option Reg8) :=
  ([([0xCB, 0xC6], .set_0_mhl, 0, .hl, none),
   ([0xCB, 0xCE], .set_1_mhl, 1, .hl, none),
   ([0xCB, 0xD6], .set_2_mhl, 2, .hl, none),
   ([0xCB, 0xDE], .set_3_mhl, 3, .hl, none),
   ([0xCB, 0xE6], .set_4_mhl, 4, .hl, none),
   ([0xCB, 0xEE], .set_5_mhl, 5, .hl, none),
   ([0xCB, 0xF6], .set_6_mhl, 6, .hl, none),
   ([0xCB, 0xFE], .set_7_mhl, 7, .hl, none),
   ([0xDD, 0xCB, d, 0xC0], .set_0_mixd_b d, 0, (.idx .ix d), some .b),
   ([0xDD, 0xCB, d, 0xC1], .set_0_mixd_c d, 0, (.idx .ix d), some .c),
   ([0xDD, 0xCB, d, 0xC2], .set_0_mixd_d d, 0, (.idx .ix d), some .d),
   ([0xDD, 0xCB, d, 0xC3], .set_0_mixd_e d, 0, (.idx .ix d), some .e),
   ([0xDD, 0xCB, d, 0xC4], .set_0_mixd_h d, 0, (.idx .ix d), some .h),
   ([0xDD, 0xCB, d, 0xC5], .set_0_mixd_l d, 0, (.idx .ix d), some .l),
   ([0xDD, 0xCB, d, 0xC6], .set_0_mixd d, 0, (.idx .ix d), none),
   ([0xDD, 0xCB, d, 0xC7], .set_0_mixd_a d, 0, (.idx .ix d), some .a),
   ([0xDD, 0xCB, d, 0xC8], .set_1_mixd_b d, 1, (.idx .ix d), some .b),
   ([0xDD, 0xCB, d, 0xC9], .set_1_mixd_c d, 1, (.idx .ix d), some .c),
   ([0xDD, 0xCB, d, 0xCA], .set_1_mixd_d d, 1, (.idx .ix d), some .d),
   ([0xDD, 0xCB, d, 0xCB], .set_1_mixd_e d, 1, (.idx .ix d), some .e)] : List (List Byte × Instr × Nat × Loc × Option Reg8)) ++
  ([([0xDD, 0xCB, d, 0xCC], .set_1_mixd_h d, 1, (.idx .ix d), some .h),
   ([0xDD, 0xCB, d, 0xCD], .set_1_mixd_l d, 1, (.idx .ix d), some .l),
   ([0xDD, 0xCB, d, 0xCE], .set_1_mixd d, 1, (.idx .ix d), none),
   ([0xDD, 0xCB, d, 0xCF], .set_1_mixd_a d, 1, (.idx .ix d), some .a),
   ([0xDD, 0xCB, d, 0xD0], .set_2_mixd_b d, 2, (.idx .ix d), some .b),
   ([0xDD, 0xCB, d, 0xD1], .set_2_mixd_c d, 2, (.idx .ix d), some .c),
   ([0xDD, 0xCB, d, 0xD2], .set_2_mixd_d d, 2, (.idx .ix d), some .d),
   ([0xDD, 0xCB, d, 0xD3], .set_2_mixd_e d, 2, (.idx .ix d), some .e),
   ([0xDD, 0xCB, d, 0xD4], .set_2_mixd_h d, 2, (.idx .ix d), some .h),
   ([0xDD, 0xCB, d, 0xD5], .set_2_mixd_l d, 2, (.idx .ix d), some .l),
   ([0xDD, 0xCB, d, 0xD6], .set_2_mixd d, 2, (.idx .ix d), none),
   ([0xDD, 0xCB, d, 0xD7], .set_2_mixd_a d, 2, (.idx .ix d), some .a),
   ([0xDD, 0xCB, d, 0xD8], .set_3_mixd_b d, 3, (.idx .ix d), some .b),
   ([0xDD, 0xCB, d, 0xD9], .set_3_mixd_c d, 3, (.idx .ix d), some .c),
   ([0xDD, 0xCB, d, 0xDA], .set_3_mixd_d d, 3, (.idx .ix d), some .d),
   ([0xDD, 0xCB, d, 0xDB], .set_3_mixd_e d, 3, (.idx .ix d), some .e),
   ([0xDD, 0xCB, d, 0xDC], .set_3_mixd_h d, 3, (.idx .ix d), some .h),
   ([0xDD, 0xCB, d, 0xDD], .set_3_mixd_l d, 3, (.idx .ix d), some .l),
   ([0xDD, 0xCB, d, 0xDE], .set_3_mixd d, 3, (.idx .ix d), none),
   ([0xDD, 0xCB, d, 0xDF], .set_3_mixd_a d, 3, (.idx .ix d), some .a)] : List (List Byte × Instr × Nat × Loc × Option Reg8)) ++
  ([([0xDD, 0xCB, d, 0xE0], .set_4_mixd_b d, 4, (.idx .ix d), some .b),
   ([0xDD, 0xCB, d, 0xE1], .set_4_mixd_c d, 4, (.idx .ix d), some .c),
   ([0xDD, 0xCB, d, 0xE2], .set_4_mixd_d d, 4, (.idx .ix d), some .d),
   ([0xDD, 0xCB, d, 0xE3], .set_4_mixd_e d, 4, (.idx .ix d), some .e),
   ([0xDD, 0xCB, d, 0xE4], .set_4_mixd_h d, 4, (.idx .ix d), some .h),
   ([0xDD, 0xCB, d, 0xE5], .set_4_mixd_l d, 4, (.idx .ix d), some .l),
   ([0xDD, 0xCB, d, 0xE6], .set_4_mixd d, 4, (.idx .ix d), none),
   ([0xDD, 0xCB, d, 0xE7], .set_4_mixd_a d, 4, (.idx .ix d), some .a),
   ([0xDD, 0xCB, d, 0xE8], .set_5_mixd_b d, 5, (.idx .ix d), some .b),
   ([0xDD, 0xCB, d, 0xE9], .set_5_mixd_c d, 5, (.idx .ix d), some .c),
   ([0xDD, 0xCB, d, 0xEA], .set_5_mixd_d d, 5, (.idx .ix d), some .d),
   ([0xDD, 0xCB, d, 0xEB], .set_5_mixd_e d, 5, (.idx .ix d), some .e),
   ([0xDD, 0xCB, d, 0xEC], .set_5_mixd_h d, 5, (.idx .ix d), some .h),
   ([0xDD, 0xCB, d, 0xED], .set_5_mixd_l d, 5, (.idx .ix d), some .l),
   ([0xDD, 0xCB, d, 0xEE], .set_5_mixd d, 5, (.idx .ix d), none),
   ([0xDD, 0xCB, d, 0xEF], .set_5_mixd_a d, 5, (.idx .ix d), some .a),
   ([0xDD, 0xCB, d, 0xF0], .set_6_mixd_b d, 6, (.idx .ix d), some .b),
   ([0xDD, 0xCB, d, 0xF1], .set_6_mixd_c d, 6, (.idx .ix d), some .c),
   ([0xDD, 0xCB, d, 0xF2], .set_6_mixd_d d, 6, (.idx .ix d), some .d),
   ([0xDD, 0xCB, d, 0xF3], .set_6_mixd_e d, 6, (.idx .ix d), some .e)] : List (List Byte × Instr × Nat × Loc × Option Reg8)) ++
  ([([0xDD, 0xCB, d, 0xF4], .set_6_mixd_h d, 6, (.idx .ix d), some .h),
   ([0xDD, 0xCB, d, 0xF5], .set_6_mixd_l d, 6, (.idx .ix d), some .l),
   ([0xDD, 0xCB, d, 0xF6], .set_6_mixd d, 6, (.idx .ix d), none),
   ([0xDD, 0xCB, d, 0xF7], .set_6_mixd_a d, 6, (.idx .ix d), some .a),
   ([0xDD, 0xCB, d, 0xF8], .set_7_mixd_b d, 7, (.idx .ix d), some .b),
   ([0xDD, 0xCB, d, 0xF9], .set_7_mixd_c d, 7, (.idx .ix d), some .c),
   ([0xDD, 0xCB, d, 0xFA], .set_7_mixd_d d, 7, (.idx .ix d), some .d),
   ([0xDD, 0xCB, d, 0xFB], .set_7_mixd_e d, 7, (.idx .ix d), some .e),
   ([0xDD, 0xCB, d, 0xFC], .set_7_mixd_h d, 7, (.idx .ix d), some .h),
   ([0xDD, 0xCB, d, 0xFD], .set_7_mixd_l d, 7, (.idx .ix d), some .l),
   ([0xDD, 0xCB, d, 0xFE], .set_7_mixd d, 7, (.idx .ix d), none),
   ([0xDD, 0xCB, d, 0xFF], .set_7_mixd_a d, 7, (.idx .ix d), some .a),
   ([0xFD, 0xCB, d, 0xC0], .set_0_miyd_b d, 0, (.idx .iy d), some .b),
   ([0xFD, 0xCB, d, 0xC1], .set_0_miyd_c d, 0, (.idx .iy d), some .c),
   ([0xFD, 0xCB, d, 0xC2], .set_0_miyd_d d, 0, (.idx .iy d), some .d),
   ([0xFD, 0xCB, d, 0xC3], .set_0_miyd_e d, 0, (.idx .iy d), some .e),
   ([0xFD, 0xCB, d, 0xC4], .set_0_miyd_h d, 0, (.idx .iy d), some .h),
   ([0xFD, 0xCB, d, 0xC5], .set_0_miyd_l d, 0, (.idx .iy d), some .l),
   ([0xFD, 0xCB, d, 0xC6], .set_0_miyd d, 0, (.idx .iy d), none),
   ([0xFD, 0xCB, d, 0xC7], .set_0_miyd_a d, 0, (.idx .iy d), some .a)] : List (List Byte × Instr × Nat × Loc × Option Reg8)) ++
  ([([0xFD, 0xCB, d, 0xC8], .set_1_miyd_b d, 1, (.idx .iy d), some .b),
   ([0xFD, 0xCB, d, 0xC9], .set_1_miyd_c d, 1, (.idx .iy d), some .c),
   ([0xFD, 0xCB, d, 0xCA], .set_1_miyd_d d, 1, (.idx .iy d), some .d),
   ([0xFD, 0xCB, d, 0xCB], .set_1_miyd_e d, 1, (.idx .iy d), some .e),
   ([0xFD, 0xCB, d, 0xCC], .set_1_miyd_h d, 1, (.idx .iy d), some .h),
   ([0xFD, 0xCB, d, 0xCD], .set_1_miyd_l d, 1, (.idx .iy d), some .l),
   ([0xFD, 0xCB, d, 0xCE], .set_1_miyd d, 1, (.idx .iy d), none),
   ([0xFD, 0xCB, d, 0xCF], .set_1_miyd_a d, 1, (.idx .iy d), some .a),
   ([0xFD, 0xCB, d, 0xD0], .set_2_miyd_b d, 2, (.idx .iy d), some .b),
   ([0xFD, 0xCB, d, 0xD1], .set_2_miyd_c d, 2, (.idx .iy d), some .c),
   ([0xFD, 0xCB, d, 0xD2], .set_2_miyd_d d, 2, (.idx .iy d), some .d),
   ([0xFD, 0xCB, d, 0xD3], .set_2_miyd_e d, 2, (.idx .iy d), some .e),
   ([0xFD, 0xCB, d, 0xD4], .set_2_miyd_h d, 2, (.idx .iy d), some .h),
   ([0xFD, 0xCB, d, 0xD5], .set_2_miyd_l d, 2, (.idx .iy d), some .l),
   ([0xFD, 0xCB, d, 0xD6], .set_2_miyd d, 2, (.idx .iy d), none),
   ([0xFD, 0xCB, d, 0xD7], .set_2_miyd_a d, 2, (.idx .iy d), some .a),
   ([0xFD, 0xCB, d, 0xD8], .set_3_miyd_b d, 3, (.idx .iy d), some .b),
   ([0xFD, 0xCB, d, 0xD9], .set_3_miyd_c d, 3, (.idx .iy d), some .c),
   ([0xFD, 0xCB, d, 0xDA], .set_3_miyd_d d, 3, (.idx .iy d), some .d),
   ([0xFD, 0xCB, d, 0xDB], .set_3_miyd_e d, 3, (.idx .iy d), some .e)] : List (List Byte × Instr × Nat × Loc × Option Reg8)) ++
  ([([0xFD, 0xCB, d, 0xDC], .set_3_miyd_h d, 3, (.idx .iy d), some .h),
   ([0xFD, 0xCB, d, 0xDD], .set_3_miyd_l d, 3, (.idx .iy d), some .l),
   ([0xFD, 0xCB, d, 0xDE], .set_3_miyd d, 3, (.idx .iy d), none),
   ([0xFD, 0xCB, d, 0xDF], .set_3_miyd_a d, 3, (.idx .iy d), some .a),
   ([0xFD, 0xCB, d, 0xE0], .set_4_miyd_b d, 4, (.idx .iy d), some .b),
   ([0xFD, 0xCB, d, 0xE1], .set_4_miyd_c d, 4, (.idx .iy d), some .c),
   ([0xFD, 0xCB, d, 0xE2], .set_4_miyd_d d, 4, (.idx .iy d), some .d),
   ([0xFD, 0xCB, d, 0xE3], .set_4_miyd_e d, 4, (.idx .iy d), some .e),
   ([0xFD, 0xCB, d, 0xE4], .set_4_miyd_h d, 4, (.idx .iy d), some .h),
   ([0xFD, 0xCB, d, 0xE5], .set_4_miyd_l d, 4, (.idx .iy d), some .l),
   ([0xFD, 0xCB, d, 0xE6], .set_4_miyd d, 4, (.idx .iy d), none),
   ([0xFD, 0xCB, d, 0xE7], .set_4_miyd_a d, 4, (.idx .iy d), some .a),
   ([0xFD, 0xCB, d, 0xE8], .set_5_miyd_b d, 5, (.idx .iy d), some .b),
   ([0xFD, 0xCB, d, 0xE9], .set_5_miyd_c d, 5, (.idx .iy d), some .c),
   ([0xFD, 0xCB, d, 0xEA], .set_5_miyd_d d, 5, (.idx .iy d), some .d),
   ([0xFD, 0xCB, d, 0xEB], .set_5_miyd_e d, 5, (.idx .iy d), some .e),
   ([0xFD, 0xCB, d, 0xEC], .set_5_miyd_h d, 5, (.idx .iy d), some .h),
   ([0xFD, 0xCB, d, 0xED], .set_5_miyd_l d, 5, (.idx .iy d), some .l),
   ([0xFD, 0xCB, d, 0xEE], .set_5_miyd d, 5, (.idx .iy d), none),
   ([0xFD, 0xCB, d, 0xEF], .set_5_miyd_a d, 5, (.idx .iy d), some .a)] : List (List Byte × Instr × Nat × Loc × Option Reg8)) ++
  ([([0xFD, 0xCB, d, 0xF0], .set_6_miyd_b d, 6, (.idx .iy d), some .b),
   ([0xFD, 0xCB, d, 0xF1], .set_6_miyd_c d, 6, (.idx .iy d), some .c),
   ([0xFD, 0xCB, d, 0xF2], .set_6_miyd_d d, 6, (.idx .iy d), some .d),
   ([0xFD, 0xCB, d, 0xF3], .set_6_miyd_e d, 6, (.idx .iy d), some .e),
   ([0xFD, 0xCB, d, 0xF4], .set_6_miyd_h d, 6, (.idx .iy d), some .h),
   ([0xFD, 0xCB, d, 0xF5], .set_6_miyd_l d, 6, (.idx .iy d), some .l),
   ([0xFD, 0xCB, d, 0xF6], .set_6_miyd d, 6, (.idx .iy d), none),
   ([0xFD, 0xCB, d, 0xF7], .set_6_miyd_a d, 6, (.idx .iy d), some .a),
   ([0xFD, 0xCB, d, 0xF8], .set_7_miyd_b d, 7, (.idx .iy d), some .b),
   ([0xFD, 0xCB, d, 0xF9], .set_7_miyd_c d, 7, (.idx .iy d), some .c),
   ([0xFD, 0xCB, d, 0xFA], .set_7_miyd_d d, 7, (.idx .iy d), some .d),
   ([0xFD, 0xCB, d, 0xFB], .set_7_miyd_e d, 7, (.idx .iy d), some .e),
   ([0xFD, 0xCB, d, 0xFC], .set_7_miyd_h d, 7, (.idx .iy d), some .h),
   ([0xFD, 0xCB, d, 0xFD], .set_7_miyd_l d, 7, (.idx .iy d), some .l),
   ([0xFD, 0xCB, d, 0xFE], .set_7_miyd d, 7, (.idx .iy d), none),
   ([0xFD, 0xCB, d, 0xFF], .set_7_miyd_a d, 7, (.idx .iy d), some .a)] : List (List Byte × Instr × Nat × Loc × Option Reg8))

/-- `in r,(c)` and `in (c)` (R311, R312): bytes, instruction, operands. -/
def inPort : List (List Byte × Instr × Option Reg8) :=
  [([0xED, 0x40], .in_b_mc, some .b),
   ([0xED, 0x48], .in_c_mc, some .c),
   ([0xED, 0x50], .in_d_mc, some .d),
   ([0xED, 0x58], .in_e_mc, some .e),
   ([0xED, 0x60], .in_h_mc, some .h),
   ([0xED, 0x68], .in_l_mc, some .l),
   ([0xED, 0x70], .in_mc, none),
   ([0xED, 0x78], .in_a_mc, some .a)]

/-- `out (c),r` (R314): bytes, instruction, operands. -/
def outReg : List (List Byte × Instr × Reg8) :=
  [([0xED, 0x41], .out_mc_b, .b),
   ([0xED, 0x49], .out_mc_c, .c),
   ([0xED, 0x51], .out_mc_d, .d),
   ([0xED, 0x59], .out_mc_e, .e),
   ([0xED, 0x61], .out_mc_h, .h),
   ([0xED, 0x69], .out_mc_l, .l),
   ([0xED, 0x79], .out_mc_a, .a)]

/-- `sbc hl,ss` (R175): bytes, instruction, operands. -/
def sbcHl : List (List Byte × Instr × Pair) :=
  [([0xED, 0x42], .sbc_hl_bc, .bc),
   ([0xED, 0x52], .sbc_hl_de, .de),
   ([0xED, 0x62], .sbc_hl_hl, .hl),
   ([0xED, 0x72], .sbc_hl_sp, .sp)]

/-- Every encoding of `neg` (R261): bytes, instruction. -/
def neg : List (List Byte × Instr) :=
  [([0xED, 0x44], .neg 0),
   ([0xED, 0x4C], .neg 1),
   ([0xED, 0x54], .neg 2),
   ([0xED, 0x5C], .neg 3),
   ([0xED, 0x64], .neg 4),
   ([0xED, 0x6C], .neg 5),
   ([0xED, 0x74], .neg 6),
   ([0xED, 0x7C], .neg 7)]

/-- `reti` and every encoding of `retn` (R221, R222): bytes, instruction. -/
def retInt : List (List Byte × Instr) :=
  [([0xED, 0x45], .retn 0),
   ([0xED, 0x4D], .reti),
   ([0xED, 0x55], .retn 2),
   ([0xED, 0x5D], .retn 3),
   ([0xED, 0x65], .retn 4),
   ([0xED, 0x6D], .retn 5),
   ([0xED, 0x75], .retn 6),
   ([0xED, 0x7D], .retn 7)]

/-- Every encoding of `im` with its mode (R272): bytes, instruction, operands. -/
def im : List (List Byte × Instr × BitVec 2) :=
  [([0xED, 0x46], .im_0 0, 0),
   ([0xED, 0x4E], .im_0_1 1, 0),
   ([0xED, 0x56], .im_1 2, 1),
   ([0xED, 0x5E], .im_2 3, 2),
   ([0xED, 0x66], .im_0 4, 0),
   ([0xED, 0x6E], .im_0_1 5, 0),
   ([0xED, 0x76], .im_1 6, 1),
   ([0xED, 0x7E], .im_2 7, 2)]

/-- `adc hl,ss` (R174): bytes, instruction, operands. -/
def adcHl : List (List Byte × Instr × Pair) :=
  [([0xED, 0x4A], .adc_hl_bc, .bc),
   ([0xED, 0x5A], .adc_hl_de, .de),
   ([0xED, 0x6A], .adc_hl_hl, .hl),
   ([0xED, 0x7A], .adc_hl_sp, .sp)]

/-- Every encoding of `bit b,(ix+d)` and `bit b,(iy+d)` (R292): bytes, instruction, operands. -/
def bitIdx (d : Byte) : List (List Byte × Instr × Nat × Idx) :=
  ([([0xDD, 0xCB, d, 0x40], .bit_0_mixd d 0, 0, .ix),
   ([0xDD, 0xCB, d, 0x41], .bit_0_mixd d 1, 0, .ix),
   ([0xDD, 0xCB, d, 0x42], .bit_0_mixd d 2, 0, .ix),
   ([0xDD, 0xCB, d, 0x43], .bit_0_mixd d 3, 0, .ix),
   ([0xDD, 0xCB, d, 0x44], .bit_0_mixd d 4, 0, .ix),
   ([0xDD, 0xCB, d, 0x45], .bit_0_mixd d 5, 0, .ix),
   ([0xDD, 0xCB, d, 0x46], .bit_0_mixd d 6, 0, .ix),
   ([0xDD, 0xCB, d, 0x47], .bit_0_mixd d 7, 0, .ix),
   ([0xDD, 0xCB, d, 0x48], .bit_1_mixd d 0, 1, .ix),
   ([0xDD, 0xCB, d, 0x49], .bit_1_mixd d 1, 1, .ix),
   ([0xDD, 0xCB, d, 0x4A], .bit_1_mixd d 2, 1, .ix),
   ([0xDD, 0xCB, d, 0x4B], .bit_1_mixd d 3, 1, .ix),
   ([0xDD, 0xCB, d, 0x4C], .bit_1_mixd d 4, 1, .ix),
   ([0xDD, 0xCB, d, 0x4D], .bit_1_mixd d 5, 1, .ix),
   ([0xDD, 0xCB, d, 0x4E], .bit_1_mixd d 6, 1, .ix),
   ([0xDD, 0xCB, d, 0x4F], .bit_1_mixd d 7, 1, .ix),
   ([0xDD, 0xCB, d, 0x50], .bit_2_mixd d 0, 2, .ix),
   ([0xDD, 0xCB, d, 0x51], .bit_2_mixd d 1, 2, .ix),
   ([0xDD, 0xCB, d, 0x52], .bit_2_mixd d 2, 2, .ix),
   ([0xDD, 0xCB, d, 0x53], .bit_2_mixd d 3, 2, .ix)] : List (List Byte × Instr × Nat × Idx)) ++
  ([([0xDD, 0xCB, d, 0x54], .bit_2_mixd d 4, 2, .ix),
   ([0xDD, 0xCB, d, 0x55], .bit_2_mixd d 5, 2, .ix),
   ([0xDD, 0xCB, d, 0x56], .bit_2_mixd d 6, 2, .ix),
   ([0xDD, 0xCB, d, 0x57], .bit_2_mixd d 7, 2, .ix),
   ([0xDD, 0xCB, d, 0x58], .bit_3_mixd d 0, 3, .ix),
   ([0xDD, 0xCB, d, 0x59], .bit_3_mixd d 1, 3, .ix),
   ([0xDD, 0xCB, d, 0x5A], .bit_3_mixd d 2, 3, .ix),
   ([0xDD, 0xCB, d, 0x5B], .bit_3_mixd d 3, 3, .ix),
   ([0xDD, 0xCB, d, 0x5C], .bit_3_mixd d 4, 3, .ix),
   ([0xDD, 0xCB, d, 0x5D], .bit_3_mixd d 5, 3, .ix),
   ([0xDD, 0xCB, d, 0x5E], .bit_3_mixd d 6, 3, .ix),
   ([0xDD, 0xCB, d, 0x5F], .bit_3_mixd d 7, 3, .ix),
   ([0xDD, 0xCB, d, 0x60], .bit_4_mixd d 0, 4, .ix),
   ([0xDD, 0xCB, d, 0x61], .bit_4_mixd d 1, 4, .ix),
   ([0xDD, 0xCB, d, 0x62], .bit_4_mixd d 2, 4, .ix),
   ([0xDD, 0xCB, d, 0x63], .bit_4_mixd d 3, 4, .ix),
   ([0xDD, 0xCB, d, 0x64], .bit_4_mixd d 4, 4, .ix),
   ([0xDD, 0xCB, d, 0x65], .bit_4_mixd d 5, 4, .ix),
   ([0xDD, 0xCB, d, 0x66], .bit_4_mixd d 6, 4, .ix),
   ([0xDD, 0xCB, d, 0x67], .bit_4_mixd d 7, 4, .ix)] : List (List Byte × Instr × Nat × Idx)) ++
  ([([0xDD, 0xCB, d, 0x68], .bit_5_mixd d 0, 5, .ix),
   ([0xDD, 0xCB, d, 0x69], .bit_5_mixd d 1, 5, .ix),
   ([0xDD, 0xCB, d, 0x6A], .bit_5_mixd d 2, 5, .ix),
   ([0xDD, 0xCB, d, 0x6B], .bit_5_mixd d 3, 5, .ix),
   ([0xDD, 0xCB, d, 0x6C], .bit_5_mixd d 4, 5, .ix),
   ([0xDD, 0xCB, d, 0x6D], .bit_5_mixd d 5, 5, .ix),
   ([0xDD, 0xCB, d, 0x6E], .bit_5_mixd d 6, 5, .ix),
   ([0xDD, 0xCB, d, 0x6F], .bit_5_mixd d 7, 5, .ix),
   ([0xDD, 0xCB, d, 0x70], .bit_6_mixd d 0, 6, .ix),
   ([0xDD, 0xCB, d, 0x71], .bit_6_mixd d 1, 6, .ix),
   ([0xDD, 0xCB, d, 0x72], .bit_6_mixd d 2, 6, .ix),
   ([0xDD, 0xCB, d, 0x73], .bit_6_mixd d 3, 6, .ix),
   ([0xDD, 0xCB, d, 0x74], .bit_6_mixd d 4, 6, .ix),
   ([0xDD, 0xCB, d, 0x75], .bit_6_mixd d 5, 6, .ix),
   ([0xDD, 0xCB, d, 0x76], .bit_6_mixd d 6, 6, .ix),
   ([0xDD, 0xCB, d, 0x77], .bit_6_mixd d 7, 6, .ix),
   ([0xDD, 0xCB, d, 0x78], .bit_7_mixd d 0, 7, .ix),
   ([0xDD, 0xCB, d, 0x79], .bit_7_mixd d 1, 7, .ix),
   ([0xDD, 0xCB, d, 0x7A], .bit_7_mixd d 2, 7, .ix),
   ([0xDD, 0xCB, d, 0x7B], .bit_7_mixd d 3, 7, .ix)] : List (List Byte × Instr × Nat × Idx)) ++
  ([([0xDD, 0xCB, d, 0x7C], .bit_7_mixd d 4, 7, .ix),
   ([0xDD, 0xCB, d, 0x7D], .bit_7_mixd d 5, 7, .ix),
   ([0xDD, 0xCB, d, 0x7E], .bit_7_mixd d 6, 7, .ix),
   ([0xDD, 0xCB, d, 0x7F], .bit_7_mixd d 7, 7, .ix),
   ([0xFD, 0xCB, d, 0x40], .bit_0_miyd d 0, 0, .iy),
   ([0xFD, 0xCB, d, 0x41], .bit_0_miyd d 1, 0, .iy),
   ([0xFD, 0xCB, d, 0x42], .bit_0_miyd d 2, 0, .iy),
   ([0xFD, 0xCB, d, 0x43], .bit_0_miyd d 3, 0, .iy),
   ([0xFD, 0xCB, d, 0x44], .bit_0_miyd d 4, 0, .iy),
   ([0xFD, 0xCB, d, 0x45], .bit_0_miyd d 5, 0, .iy),
   ([0xFD, 0xCB, d, 0x46], .bit_0_miyd d 6, 0, .iy),
   ([0xFD, 0xCB, d, 0x47], .bit_0_miyd d 7, 0, .iy),
   ([0xFD, 0xCB, d, 0x48], .bit_1_miyd d 0, 1, .iy),
   ([0xFD, 0xCB, d, 0x49], .bit_1_miyd d 1, 1, .iy),
   ([0xFD, 0xCB, d, 0x4A], .bit_1_miyd d 2, 1, .iy),
   ([0xFD, 0xCB, d, 0x4B], .bit_1_miyd d 3, 1, .iy),
   ([0xFD, 0xCB, d, 0x4C], .bit_1_miyd d 4, 1, .iy),
   ([0xFD, 0xCB, d, 0x4D], .bit_1_miyd d 5, 1, .iy),
   ([0xFD, 0xCB, d, 0x4E], .bit_1_miyd d 6, 1, .iy),
   ([0xFD, 0xCB, d, 0x4F], .bit_1_miyd d 7, 1, .iy)] : List (List Byte × Instr × Nat × Idx)) ++
  ([([0xFD, 0xCB, d, 0x50], .bit_2_miyd d 0, 2, .iy),
   ([0xFD, 0xCB, d, 0x51], .bit_2_miyd d 1, 2, .iy),
   ([0xFD, 0xCB, d, 0x52], .bit_2_miyd d 2, 2, .iy),
   ([0xFD, 0xCB, d, 0x53], .bit_2_miyd d 3, 2, .iy),
   ([0xFD, 0xCB, d, 0x54], .bit_2_miyd d 4, 2, .iy),
   ([0xFD, 0xCB, d, 0x55], .bit_2_miyd d 5, 2, .iy),
   ([0xFD, 0xCB, d, 0x56], .bit_2_miyd d 6, 2, .iy),
   ([0xFD, 0xCB, d, 0x57], .bit_2_miyd d 7, 2, .iy),
   ([0xFD, 0xCB, d, 0x58], .bit_3_miyd d 0, 3, .iy),
   ([0xFD, 0xCB, d, 0x59], .bit_3_miyd d 1, 3, .iy),
   ([0xFD, 0xCB, d, 0x5A], .bit_3_miyd d 2, 3, .iy),
   ([0xFD, 0xCB, d, 0x5B], .bit_3_miyd d 3, 3, .iy),
   ([0xFD, 0xCB, d, 0x5C], .bit_3_miyd d 4, 3, .iy),
   ([0xFD, 0xCB, d, 0x5D], .bit_3_miyd d 5, 3, .iy),
   ([0xFD, 0xCB, d, 0x5E], .bit_3_miyd d 6, 3, .iy),
   ([0xFD, 0xCB, d, 0x5F], .bit_3_miyd d 7, 3, .iy),
   ([0xFD, 0xCB, d, 0x60], .bit_4_miyd d 0, 4, .iy),
   ([0xFD, 0xCB, d, 0x61], .bit_4_miyd d 1, 4, .iy),
   ([0xFD, 0xCB, d, 0x62], .bit_4_miyd d 2, 4, .iy),
   ([0xFD, 0xCB, d, 0x63], .bit_4_miyd d 3, 4, .iy)] : List (List Byte × Instr × Nat × Idx)) ++
  ([([0xFD, 0xCB, d, 0x64], .bit_4_miyd d 4, 4, .iy),
   ([0xFD, 0xCB, d, 0x65], .bit_4_miyd d 5, 4, .iy),
   ([0xFD, 0xCB, d, 0x66], .bit_4_miyd d 6, 4, .iy),
   ([0xFD, 0xCB, d, 0x67], .bit_4_miyd d 7, 4, .iy),
   ([0xFD, 0xCB, d, 0x68], .bit_5_miyd d 0, 5, .iy),
   ([0xFD, 0xCB, d, 0x69], .bit_5_miyd d 1, 5, .iy),
   ([0xFD, 0xCB, d, 0x6A], .bit_5_miyd d 2, 5, .iy),
   ([0xFD, 0xCB, d, 0x6B], .bit_5_miyd d 3, 5, .iy),
   ([0xFD, 0xCB, d, 0x6C], .bit_5_miyd d 4, 5, .iy),
   ([0xFD, 0xCB, d, 0x6D], .bit_5_miyd d 5, 5, .iy),
   ([0xFD, 0xCB, d, 0x6E], .bit_5_miyd d 6, 5, .iy),
   ([0xFD, 0xCB, d, 0x6F], .bit_5_miyd d 7, 5, .iy),
   ([0xFD, 0xCB, d, 0x70], .bit_6_miyd d 0, 6, .iy),
   ([0xFD, 0xCB, d, 0x71], .bit_6_miyd d 1, 6, .iy),
   ([0xFD, 0xCB, d, 0x72], .bit_6_miyd d 2, 6, .iy),
   ([0xFD, 0xCB, d, 0x73], .bit_6_miyd d 3, 6, .iy),
   ([0xFD, 0xCB, d, 0x74], .bit_6_miyd d 4, 6, .iy),
   ([0xFD, 0xCB, d, 0x75], .bit_6_miyd d 5, 6, .iy),
   ([0xFD, 0xCB, d, 0x76], .bit_6_miyd d 6, 6, .iy),
   ([0xFD, 0xCB, d, 0x77], .bit_6_miyd d 7, 6, .iy)] : List (List Byte × Instr × Nat × Idx)) ++
  ([([0xFD, 0xCB, d, 0x78], .bit_7_miyd d 0, 7, .iy),
   ([0xFD, 0xCB, d, 0x79], .bit_7_miyd d 1, 7, .iy),
   ([0xFD, 0xCB, d, 0x7A], .bit_7_miyd d 2, 7, .iy),
   ([0xFD, 0xCB, d, 0x7B], .bit_7_miyd d 3, 7, .iy),
   ([0xFD, 0xCB, d, 0x7C], .bit_7_miyd d 4, 7, .iy),
   ([0xFD, 0xCB, d, 0x7D], .bit_7_miyd d 5, 7, .iy),
   ([0xFD, 0xCB, d, 0x7E], .bit_7_miyd d 6, 7, .iy),
   ([0xFD, 0xCB, d, 0x7F], .bit_7_miyd d 7, 7, .iy)] : List (List Byte × Instr × Nat × Idx))

end

end Sys2Proof.Rows

/-! ## The forms of a statement -/

namespace Sys2Proof.Claims

open Sys2Proof.Machine

/-- The bytes `code`, whatever follows them, are the instruction `i` (30_encoding.md R88 to R92). -/
def IsCode (code : List Byte) (i : Instr) : Prop := ∀ rest : List Byte, decode (code ++ rest) = .ok (i, rest)

/-- Executing `i` in `s` raises the fault `e`: the status is `FAULT(OutOfRange, (space, address, pc0))`, `pc0` the address of
the instruction's first byte (60_exceptions.md R371). While an instruction executes `PC` is the address after it
(10_state.md R26), so `pc0` is `PC` less the length. -/
def Raises (code : List Byte) (i : Instr) (s : State) (e : AccessFault) : Prop :=
  ∃ t, exec i s = .next t ∧ t.status = .fault (.outOfRange e.space e.addr (s.pc - BitVec.ofNat 16 code.length))

/-- An access at the address `a`, which does not exist (20_memory.md R51). -/
def RaisesAt (code : List Byte) (i : Instr) (s : State) (a : Word) : Prop := Raises code i s ⟨.mem, a.toNat⟩

/-- An instruction with the memory byte operand `loc`: it raises what the address raises, or the access at an address that
does not exist; else it does what `P` says of the address and the byte there. -/
def OnByte (code : List Byte) (i : Instr) (s : State) (loc : Loc) (P : Word → Byte → Prop) : Prop :=
  (∀ e, s.effAddr loc = .error e → Raises code i s e) ∧
  (∀ a, s.effAddr loc = .ok a → ¬ s.inMem a → RaisesAt code i s a) ∧
  (∀ a, s.effAddr loc = .ok a → s.inMem a → P a (s.mem.read a.toNat))

/-- An instruction with the source operand `s` of 42_arith.md R164. -/
def OnSource (code : List Byte) (i : Instr) (s : State) (src : Src8) (P : Byte → Prop) : Prop :=
  match src with
  | .reg r => P (s.reg8 r)
  | .imm n => P n
  | .mem loc => OnByte code i s loc fun _ v => P v

/-- An instruction with the memory word operand at `a`, low byte then high byte (20_memory.md R55): `P` gets the address of
the high byte. -/
def OnWord (code : List Byte) (i : Instr) (s : State) (a : Word) (P : Word → Prop) : Prop :=
  (¬ s.inMem a → RaisesAt code i s a) ∧
  (∀ e, s.inMem a → s.addrNext a = .error e → Raises code i s e) ∧
  (∀ b, s.inMem a → s.addrNext a = .ok b → ¬ s.inMem b → RaisesAt code i s b) ∧
  (∀ b, s.inMem a → s.addrNext a = .ok b → s.inMem b → P b)

/-- An instruction that accesses the stack cells `a`, then `b`. -/
def OnStack (code : List Byte) (i : Instr) (s : State) (a b : Word) (P : Prop) : Prop :=
  (¬ s.inMem a → RaisesAt code i s a) ∧
  (s.inMem a → ¬ s.inMem b → RaisesAt code i s b) ∧
  (s.inMem a → s.inMem b → P)

/-- The memory of `t` is that of `s` with the byte `v` at `a`: the cell reads `v`, every other cell reads as before. -/
def Stored (s t : State) (a : Word) (v : Byte) : Prop :=
  ∀ k : Nat, t.mem.read k = if k = a.toNat then v else s.mem.read k

/-- The memory of `t` is that of `s` with `low` at `a` and `high` at `b`. -/
def StoredWord (s t : State) (a b : Word) (low high : Byte) : Prop :=
  ∀ k : Nat, t.mem.read k = if k = b.toNat then high else if k = a.toNat then low else s.mem.read k

/-- The effect is `t` of `s` but for memory, where it stores the byte `v` at `a`. -/
def NextStoring (i : Instr) (s u : State) (a : Word) (v : Byte) : Prop :=
  ∃ t, exec i s = .next t ∧ t = { u with mem := t.mem } ∧ Stored s t a v

/-- The effect is `u` but for memory, where it stores `low` at `a` and `high` at `b`. -/
def NextStoringWord (i : Instr) (s u : State) (a b : Word) (low high : Byte) : Prop :=
  ∃ t, exec i s = .next t ∧ t = { u with mem := t.mem } ∧ StoredWord s t a b low high

/-- A flag the source does not give (30_encoding.md R101): the silicon value, or under `DRAW` the `k`-th fresh draw, which
the model names by its draw counter (notes/assumptions/4.md). -/
def drawn (s : State) (k : Nat) (silicon : Bool) : Bool :=
  match s.params.undocFlags with
  | .silicon => silicon
  | .draw => Config.freeBit (s.draws + k)

/-- The draw counter after `n` flags of R101 (the model's own; notes/assumptions/4.md). -/
def drawsAfter (s : State) (n : Nat) : Nat :=
  match s.params.undocFlags with
  | .silicon => s.draws
  | .draw => s.draws + n

/-- `R` after `n` opcode fetches (30_encoding.md R102). -/
def refreshed (s : State) (n : Nat) : Byte :=
  match s.params.rMode with
  | .frozen => s.r
  | .m1 => (s.r &&& 0x80#8) ||| BitVec.ofNat 8 ((s.r.toNat + n) % 128)

/-- The address `k` bytes on in the direction `dir`, modulo 65536. -/
def reach (dir : Dir) (a : Word) (k : Nat) : Word :=
  match dir with
  | .up => a + BitVec.ofNat 16 k
  | .down => a - BitVec.ofNat 16 k

/-- The iterations of a repeat counted by `BC`: zero on entry runs 65536 (45_compare_block.md). -/
def wordCount (s : State) : Nat := if s.pair .bc = 0 then 65536 else (s.pair .bc).toNat

/-- The iterations of a repeat counted by `B`: zero on entry runs 256 (48_io.md R318). -/
def byteCount (s : State) : Nat := if s.b = 0 then 256 else s.b.toNat

/-- `n` bytes moved one by one, each move reading what the earlier ones wrote (45_compare_block.md R243). -/
def movedBytes (dir : Dir) (src dst : Word) : Nat → Memory → Memory
  | 0, m => m
  | n + 1, m =>
    let m' := movedBytes dir src dst n m
    m'.write (reach dir dst n).toNat (m'.read (reach dir src n).toNat)

/-- The flags of a block I/O step (48_io.md R316) with the byte `v`, the decremented `B` and the sum `j`; the draws of the
step are numbered from `base`. -/
def blockIoFlags (s : State) (base : Nat) (v b : Byte) (j : Nat) : Flags :=
  { s := drawn s base (b.getLsbD 7), z := b == 0, f5 := drawn s (base + 1) (b.getLsbD 5),
    h := drawn s (base + 3) (decide (255 < j)), f3 := drawn s (base + 2) (b.getLsbD 3),
    pv := drawn s (base + 5) (parity (BitVec.ofNat 8 (j % 8) ^^^ b)), n := drawn s (base + 6) (v.getLsbD 7),
    c := drawn s (base + 4) (decide (255 < j)) }

/-- The second bytes that `ED` makes an instruction with (30_encoding.md R90). -/
def edLegal (op : Byte) : Bool :=
  (decide (0x40 ≤ op) && decide (op ≤ 0x7E) && op != 0x77) ||
  (decide (0xA0 ≤ op) && decide (op ≤ 0xBB) && decide (op.toNat % 8 < 4))

/-- The second bytes that `DD` or `FD` makes an instruction with: `CB` (30_encoding.md R92) and the 85 of R91. -/
def xyLegal (op : Byte) : Bool :=
  op == 0xCB ||
  ([0x09, 0x19, 0x21, 0x22, 0x23, 0x24, 0x25, 0x26, 0x29, 0x2A, 0x2B, 0x2C, 0x2D, 0x2E, 0x34, 0x35, 0x36, 0x39, 0x44, 0x45,
    0x46, 0x4C, 0x4D, 0x4E, 0x54, 0x55, 0x56, 0x5C, 0x5D, 0x5E, 0x60, 0x61, 0x62, 0x63, 0x64, 0x65, 0x66, 0x67, 0x68, 0x69,
    0x6A, 0x6B, 0x6C, 0x6D, 0x6E, 0x6F, 0x70, 0x71, 0x72, 0x73, 0x74, 0x75, 0x77, 0x7C, 0x7D, 0x7E, 0x84, 0x85, 0x86, 0x8C,
    0x8D, 0x8E, 0x94, 0x95, 0x96, 0x9C, 0x9D, 0x9E, 0xA4, 0xA5, 0xA6, 0xAC, 0xAD, 0xAE, 0xB4, 0xB5, 0xB6, 0xBC, 0xBD, 0xBE,
    0xE1, 0xE3, 0xE5, 0xE9, 0xF9] : List Byte).contains op

/-- Memory holds the bytes `code` from `PC` on (30_encoding.md R96; addresses wrap). -/
def CodeAtPc (s : State) (code : List Byte) : Prop :=
  ∀ k (h : k < code.length), s.inMem (s.pc + BitVec.ofNat 16 k) ∧
    s.mem.read (s.pc + BitVec.ofNat 16 k).toNat = code[k]

end Sys2Proof.Claims

section

open Sys2Proof Sys2Proof.Machine Sys2Proof.Claims

/-! ## State, memory and the primitives -/

/-- 10_state.md R37 and 70_reset_and_hazards.md R400: reset gives `PC`, `IFF1`, `IFF2`, `IM`, `I`, `R` and `status` their
values and every other element the launch's. -/
def Obligations.ResetValues : Prop :=
  ∀ (p : Params) (x : Launch),
    let s := State.ofLaunch p x
    s.pc = 0x0000 ∧ s.iff1 = false ∧ s.iff2 = false ∧ s.im = 0 ∧ s.i = 0x00 ∧ s.r = 0x00 ∧ s.status = .run ∧
    (s.a = x.a ∧ s.f = x.f ∧ s.b = x.b ∧ s.c = x.c ∧ s.d = x.d ∧ s.e = x.e ∧ s.h = x.h ∧ s.l = x.l) ∧
    (s.a' = x.a' ∧ s.f' = x.f' ∧ s.b' = x.b' ∧ s.c' = x.c' ∧ s.d' = x.d' ∧ s.e' = x.e' ∧ s.h' = x.h' ∧ s.l' = x.l') ∧
    s.ixh = x.ixh ∧ s.ixl = x.ixl ∧ s.iyh = x.iyh ∧ s.iyl = x.iyl ∧ s.sp = x.sp ∧ s.mem = x.mem ∧ s.ports = x.ports ∧
    s.params = p

/-- 10_state.md R20, R22, R23: an 8-bit register reads back what was written and no other changes; a composite is
`{high, low}` of its halves, and writing it writes both. -/
def Obligations.RegisterFile : Prop :=
  ∀ s : State,
    (∀ r q v, (s.setReg8 r v).reg8 q = if q = r then v else s.reg8 q) ∧
    (s.pair .af).toNat = s.a.toNat * 256 + s.f.toNat ∧
    (∀ p hi lo,
      (p, hi, lo) ∈ ([(.bc, .b, .c), (.de, .d, .e), (.hl, .h, .l), (.ix, .ixh, .ixl), (.iy, .iyh, .iyl)] :
        List (Pair × Reg8 × Reg8)) →
      (s.pair p).toNat = (s.reg8 hi).toNat * 256 + (s.reg8 lo).toNat ∧
      ∀ v : Word, s.setPair p v =
        (s.setReg8 hi (BitVec.ofNat 8 (v.toNat / 256))).setReg8 lo (BitVec.ofNat 8 (v.toNat % 256))) ∧
    (∀ v : Word, s.setPair .af v =
      { s with a := BitVec.ofNat 8 (v.toNat / 256), f := BitVec.ofNat 8 (v.toNat % 256) }) ∧
    (∀ v : Word, s.setPair .sp v = { s with sp := v } ∧ s.pair .sp = s.sp)

/-- 10_state.md R28: the place of each named bit of `F`, and that no bit of `F` is outside the names. -/
def Obligations.FlagPositions : Prop :=
  (∀ x : Flags, x.toByte.getLsbD 7 = x.s ∧ x.toByte.getLsbD 6 = x.z ∧ x.toByte.getLsbD 5 = x.f5 ∧
    x.toByte.getLsbD 4 = x.h ∧ x.toByte.getLsbD 3 = x.f3 ∧ x.toByte.getLsbD 2 = x.pv ∧
    x.toByte.getLsbD 1 = x.n ∧ x.toByte.getLsbD 0 = x.c) ∧
  (∀ s : State, s.flags.toByte = s.f) ∧
  (∀ x : Flags, Flags.ofByte x.toByte = x)

/-- 20_memory.md R56 and R59: the effective address of every memory form and the address after an address, under both
values of `ADDR_WRAP`. -/
def Obligations.EffectiveAddresses : Prop :=
  ∀ s : State,
    s.effAddr .bc = .ok (s.pair .bc) ∧ s.effAddr .de = .ok (s.pair .de) ∧ s.effAddr .hl = .ok (s.pair .hl) ∧
    (∀ nn, s.effAddr (.ext nn) = .ok nn) ∧
    (∀ (x : Idx) (d : Byte),
      let base := match x with | .ix => s.pair .ix | .iy => s.pair .iy
      let sum : Int := (base.toNat : Int) + d.toInt
      (s.params.addrWrap = .wrap → s.effAddr (.idx x d) = .ok (base + d.signExtend 16)) ∧
      (s.params.addrWrap = .fault → 0 ≤ sum → sum ≤ 65535 → s.effAddr (.idx x d) = .ok (base + d.signExtend 16)) ∧
      (s.params.addrWrap = .fault → sum < 0 ∨ 65535 < sum → s.effAddr (.idx x d) = .error ⟨.mem, sum⟩)) ∧
    (∀ a : Word,
      (s.params.addrWrap = .wrap → s.addrNext a = .ok (a + 1)) ∧
      (s.params.addrWrap = .fault → a ≠ 0xFFFF → s.addrNext a = .ok (a + 1)) ∧
      (s.params.addrWrap = .fault → a = 0xFFFF → s.addrNext a = .error ⟨.mem, 65536⟩))

/-- 20_memory.md R51, R52, R63: a memory cell below `MEM_SIZE` returns the last value written and an access elsewhere raises
`OutOfRange`; a port cell returns the last value written; no other cell and no other element changes. -/
def Obligations.CellArrays : Prop :=
  ∀ (s : State) (a : Word) (v : Byte),
    (a.toNat < s.params.memSize →
      s.memRead a = .ok (s.mem.read a.toNat) ∧
      ∃ t, s.memWrite a v = .ok t ∧ t = { s with mem := t.mem } ∧ Stored s t a v ∧ t.memRead a = .ok v ∧
        ∀ b : Word, b ≠ a → t.memRead b = s.memRead b) ∧
    (¬ a.toNat < s.params.memSize →
      s.memRead a = .error ⟨.mem, a.toNat⟩ ∧ s.memWrite a v = .error ⟨.mem, a.toNat⟩) ∧
    (∀ p : Byte, ∃ t, s.portWrite p v = t ∧ t = { s with ports := t.ports } ∧ t.portRead p = v ∧
      ∀ q : Byte, q ≠ p → t.portRead q = s.portRead q)

/-- 20_memory.md R54 and R55: a 16-bit access is the byte at `a`, low, then the byte at `AddrNext(a)`, high. -/
def Obligations.WordAccess : Prop :=
  ∀ (s : State) (a b : Word) (v : Word),
    (s.inMem a → s.addrNext a = .ok b → s.inMem b →
      (∃ w, s.memRead16 a = .ok w ∧ w.toNat = (s.mem.read b.toNat).toNat * 256 + (s.mem.read a.toNat).toNat) ∧
      ∃ t, s.memWrite16 a v = .ok t ∧ t = { s with mem := t.mem } ∧
        StoredWord s t a b (BitVec.ofNat 8 v.toNat) (BitVec.ofNat 8 (v.toNat / 256))) ∧
    (¬ s.inMem a → s.memRead16 a = .error ⟨.mem, a.toNat⟩ ∧ s.memWrite16 a v = .error ⟨.mem, a.toNat⟩) ∧
    (∀ e, s.inMem a → s.addrNext a = .error e → s.memRead16 a = .error e ∧ s.memWrite16 a v = .error e) ∧
    (s.inMem a → s.addrNext a = .ok b → ¬ s.inMem b →
      s.memRead16 a = .error ⟨.mem, b.toNat⟩ ∧ s.memWrite16 a v = .error ⟨.mem, b.toNat⟩)

/-- 42_arith.md R160 to R163 and R181: result and flags of the four ALU primitives; `V` is signed overflow (10_state.md
R29). -/
def Obligations.AluPrimitives : Prop :=
  (∀ (a b : Byte) (c : Bool),
    let o := add8 a b c
    o.res.toNat = (a.toNat + b.toNat + c.toNat) % 256 ∧ o.s = o.res.getLsbD 7 ∧ (o.z = true ↔ o.res = 0) ∧
    (o.h = true ↔ 15 < a.toNat % 16 + b.toNat % 16 + c.toNat) ∧
    (o.v = true ↔ a.toInt + b.toInt + c.toNat < -128 ∨ 127 < a.toInt + b.toInt + c.toNat) ∧
    o.n = false ∧ (o.c = true ↔ 255 < a.toNat + b.toNat + c.toNat)) ∧
  (∀ (a b : Byte) (c : Bool),
    let o := sub8 a b c
    (o.res.toNat : Int) = ((a.toNat : Int) - b.toNat - c.toNat) % 256 ∧ o.s = o.res.getLsbD 7 ∧
    (o.z = true ↔ o.res = 0) ∧ (o.h = true ↔ a.toNat % 16 < b.toNat % 16 + c.toNat) ∧
    (o.v = true ↔ a.toInt - b.toInt - c.toNat < -128 ∨ 127 < a.toInt - b.toInt - c.toNat) ∧
    o.n = true ∧ (o.c = true ↔ a.toNat < b.toNat + c.toNat)) ∧
  (∀ (a b : Word) (c : Bool),
    let o := add16 a b c
    o.res.toNat = (a.toNat + b.toNat + c.toNat) % 65536 ∧ o.s = o.res.getLsbD 15 ∧ (o.z = true ↔ o.res = 0) ∧
    (o.h = true ↔ 4095 < a.toNat % 4096 + b.toNat % 4096 + c.toNat) ∧
    (o.v = true ↔ a.toInt + b.toInt + c.toNat < -32768 ∨ 32767 < a.toInt + b.toInt + c.toNat) ∧
    o.n = false ∧ (o.c = true ↔ 65535 < a.toNat + b.toNat + c.toNat)) ∧
  (∀ (a b : Word) (c : Bool),
    let o := sub16 a b c
    (o.res.toNat : Int) = ((a.toNat : Int) - b.toNat - c.toNat) % 65536 ∧ o.s = o.res.getLsbD 15 ∧
    (o.z = true ↔ o.res = 0) ∧ (o.h = true ↔ a.toNat % 4096 < b.toNat % 4096 + c.toNat) ∧
    (o.v = true ↔ a.toInt - b.toInt - c.toNat < -32768 ∨ 32767 < a.toInt - b.toInt - c.toNat) ∧
    o.n = true ∧ (o.c = true ↔ a.toNat < b.toNat + c.toNat))

/-- 49_rotate_shift.md R340: the result as a number and the bit shifted out, for each of the eight operations. -/
def Obligations.RotatePrimitive : Prop :=
  ∀ (v : Byte) (c : Bool),
    ((rot .rlc v c).1.toNat = v.toNat * 2 % 256 + v.toNat / 128 ∧ (rot .rlc v c).2 = v.getLsbD 7) ∧
    ((rot .rrc v c).1.toNat = v.toNat / 2 + v.toNat % 2 * 128 ∧ (rot .rrc v c).2 = v.getLsbD 0) ∧
    ((rot .rl v c).1.toNat = v.toNat * 2 % 256 + c.toNat ∧ (rot .rl v c).2 = v.getLsbD 7) ∧
    ((rot .rr v c).1.toNat = v.toNat / 2 + c.toNat * 128 ∧ (rot .rr v c).2 = v.getLsbD 0) ∧
    ((rot .sla v c).1.toNat = v.toNat * 2 % 256 ∧ (rot .sla v c).2 = v.getLsbD 7) ∧
    ((rot .sra v c).1.toNat = v.toNat / 2 + v.toNat / 128 * 128 ∧ (rot .sra v c).2 = v.getLsbD 0) ∧
    ((rot .sll v c).1.toNat = v.toNat * 2 % 256 + 1 ∧ (rot .sll v c).2 = v.getLsbD 7) ∧
    ((rot .srl v c).1.toNat = v.toNat / 2 ∧ (rot .srl v c).2 = v.getLsbD 0)

/-! ## Loads and exchanges -/

/-- 40_load.md R120 and R121, every form of `ld r,r'` and `ld r,n`: the register takes the value, nothing else changes. -/
def Obligations.LoadRegister : Prop :=
  ∀ (s : State) (n : Byte),
    (∀ code i dst src, (code, i, dst, src) ∈ Rows.loadReg →
      IsCode code i ∧ exec i s = .next (s.setReg8 dst (s.reg8 src))) ∧
    (∀ code i dst, (code, i, dst) ∈ Rows.loadImm n → IsCode code i ∧ exec i s = .next (s.setReg8 dst n))

/-- 40_load.md R122, R123, R128, R129: the register takes the memory byte, nothing else changes. -/
def Obligations.LoadFromMemory : Prop :=
  ∀ (s : State) (d l h : Byte) code i dst loc, (code, i, dst, loc) ∈ Rows.loadMem d l h →
    IsCode code i ∧ OnByte code i s loc fun _ v => exec i s = .next (s.setReg8 dst v)

/-- 40_load.md R124 to R127, R130, R131: the byte goes to the effective address; no other byte of memory and no other element
changes. -/
def Obligations.StoreToMemory : Prop :=
  ∀ (s : State) (d n l h : Byte),
    (∀ code i loc src, (code, i, loc, src) ∈ Rows.storeReg d l h →
      IsCode code i ∧ OnByte code i s loc fun a _ => NextStoring i s s a (s.reg8 src)) ∧
    (∀ code i loc, (code, i, loc) ∈ Rows.storeImm d n →
      IsCode code i ∧ OnByte code i s loc fun a _ => NextStoring i s s a n)

/-- 40_load.md R132 to R135: `ld a,i` and `ld a,r` with their flags, `ld i,a` and `ld r,a`. -/
def Obligations.LoadSpecialRegisters : Prop :=
  ∀ s : State,
    (∀ code i v, (code, i, v) ∈ ([([0xED, 0x57], .ld_a_i, s.i), ([0xED, 0x5F], .ld_a_r, s.r)] :
        List (List Byte × Instr × Byte)) →
      IsCode code i ∧
      exec i s = .next { s with
        a := v,
        f := Flags.toByte { s := v.getLsbD 7, z := v == 0, f5 := v.getLsbD 5, h := false, f3 := v.getLsbD 3,
                            pv := s.iff2, n := false, c := s.flags.c } }) ∧
    (IsCode [0xED, 0x47] .ld_i_a ∧ exec .ld_i_a s = .next { s with i := s.a }) ∧
    (IsCode [0xED, 0x4F] .ld_r_a ∧ exec .ld_r_a s = .next { s with r := s.a })

/-- 40_load.md R136, R137, R144, R145: the pair takes the word, nothing else changes. -/
def Obligations.LoadPairs : Prop :=
  ∀ (s : State) (l h : Byte),
    (∀ code i dst, (code, i, dst) ∈ Rows.loadPairImm l h →
      IsCode code i ∧ exec i s = .next (s.setPair dst (joinBytes h l))) ∧
    (∀ code i src, (code, i, src) ∈ Rows.loadSp → IsCode code i ∧ exec i s = .next { s with sp := s.pair src })

/-- 40_load.md R138 to R140: the pair takes the word at `nn`, low byte first. -/
def Obligations.LoadPairsFromMemory : Prop :=
  ∀ (s : State) (l h : Byte) code i dst, (code, i, dst) ∈ Rows.loadPairMem l h →
    IsCode code i ∧
    OnWord code i s (joinBytes h l) fun b =>
      exec i s = .next (s.setPair dst (joinBytes (s.mem.read b.toNat) (s.mem.read (joinBytes h l).toNat)))

/-- 40_load.md R141 to R143: the pair goes to `nn`, low byte first; no other byte and no other element changes. -/
def Obligations.StorePairsToMemory : Prop :=
  ∀ (s : State) (l h : Byte) code i src, (code, i, src) ∈ Rows.storePair l h →
    IsCode code i ∧
    OnWord code i s (joinBytes h l) fun b =>
      NextStoringWord i s s (joinBytes h l) b (lowByte (s.pair src)) (highByte (s.pair src))

/-- 41_exchange.md R150 to R152. -/
def Obligations.ExchangeRegisters : Prop :=
  ∀ s : State,
    (IsCode [0xEB] .ex_de_hl ∧ exec .ex_de_hl s = .next { s with d := s.h, e := s.l, h := s.d, l := s.e }) ∧
    (IsCode [0x08] .ex_af_af ∧ exec .ex_af_af s = .next { s with a := s.a', f := s.f', a' := s.a, f' := s.f }) ∧
    (IsCode [0xD9] .exx ∧ exec .exx s = .next { s with
      b := s.b', c := s.c', d := s.d', e := s.e', h := s.h', l := s.l',
      b' := s.b, c' := s.c, d' := s.d, e' := s.e, h' := s.h, l' := s.l })

/-- 41_exchange.md R153 and R154: the register takes the word at `SP` and the word at `SP` takes the register's old value;
`SP` and everything else are unchanged. -/
def Obligations.ExchangeStackTop : Prop :=
  ∀ (s : State) code i p, (code, i, p) ∈ Rows.exTop →
    IsCode code i ∧
    OnWord code i s s.sp fun b =>
      NextStoringWord i s (s.setPair p (joinBytes (s.mem.read b.toNat) (s.mem.read s.sp.toNat))) s.sp b
        (lowByte (s.pair p)) (highByte (s.pair p))

/-! ## Arithmetic and logic -/

/-- 42_arith.md R165 and R166. -/
def Obligations.AddToAccumulator : Prop :=
  ∀ (s : State) (d n : Byte) code i src carry,
    (code, i, src) ∈ Rows.add d n ∧ carry = false ∨ (code, i, src) ∈ Rows.adc d n ∧ carry = s.flags.c →
    IsCode code i ∧
    OnSource code i s src fun v =>
      let o := add8 s.a v carry
      exec i s = .next { s with
        a := o.res,
        f := Flags.toByte { s := o.s, z := o.z, f5 := o.res.getLsbD 5, h := o.h, f3 := o.res.getLsbD 3, pv := o.v,
                            n := false, c := o.c } }

/-- 42_arith.md R167 and R168. -/
def Obligations.SubtractFromAccumulator : Prop :=
  ∀ (s : State) (d n : Byte) code i src carry,
    (code, i, src) ∈ Rows.sub d n ∧ carry = false ∨ (code, i, src) ∈ Rows.sbc d n ∧ carry = s.flags.c →
    IsCode code i ∧
    OnSource code i s src fun v =>
      let o := sub8 s.a v carry
      exec i s = .next { s with
        a := o.res,
        f := Flags.toByte { s := o.s, z := o.z, f5 := o.res.getLsbD 5, h := o.h, f3 := o.res.getLsbD 3, pv := o.v,
                            n := true, c := o.c } }

/-- 45_compare_block.md R240: `A` is not written, and bits 5 and 3 come from the operand. -/
def Obligations.CompareAccumulator : Prop :=
  ∀ (s : State) (d n : Byte) code i src, (code, i, src) ∈ Rows.cp d n →
    IsCode code i ∧
    OnSource code i s src fun v =>
      let o := sub8 s.a v false
      exec i s = .next { s with
        f := Flags.toByte { s := o.s, z := o.z, f5 := v.getLsbD 5, h := o.h, f3 := v.getLsbD 3, pv := o.v,
                            n := true, c := o.c } }

/-- 46_logic_control.md R262 to R264. -/
def Obligations.LogicAccumulator : Prop :=
  ∀ (s : State) (d n : Byte) code i src (op : Byte → Byte → Byte) (half : Bool),
    (code, i, src) ∈ Rows.and d n ∧ op = (· &&& ·) ∧ half = true ∨
    (code, i, src) ∈ Rows.or d n ∧ op = (· ||| ·) ∧ half = false ∨
    (code, i, src) ∈ Rows.xor d n ∧ op = (· ^^^ ·) ∧ half = false →
    IsCode code i ∧
    OnSource code i s src fun v =>
      let res := op s.a v
      exec i s = .next { s with
        a := res,
        f := Flags.toByte { s := res.getLsbD 7, z := res == 0, f5 := res.getLsbD 5, h := half, f3 := res.getLsbD 3,
                            pv := parity res, n := false, c := false } }

/-- 42_arith.md R169 and R171: `C` is unchanged, `PV` and `H` are at the values the rules name. -/
def Obligations.StepRegister : Prop :=
  ∀ (s : State),
    (∀ code i r, (code, i, r) ∈ Rows.incReg →
      let res := s.reg8 r + 1
      IsCode code i ∧
      exec i s = .next { s.setReg8 r res with
        f := Flags.toByte { s := res.getLsbD 7, z := res == 0, f5 := res.getLsbD 5, h := (s.reg8 r).toNat % 16 == 15,
                            f3 := res.getLsbD 3, pv := s.reg8 r == 0x7F, n := false, c := s.flags.c } }) ∧
    (∀ code i r, (code, i, r) ∈ Rows.decReg →
      let res := s.reg8 r - 1
      IsCode code i ∧
      exec i s = .next { s.setReg8 r res with
        f := Flags.toByte { s := res.getLsbD 7, z := res == 0, f5 := res.getLsbD 5, h := (s.reg8 r).toNat % 16 == 0,
                            f3 := res.getLsbD 3, pv := s.reg8 r == 0x80, n := true, c := s.flags.c } })

/-- 42_arith.md R170 and R172. -/
def Obligations.StepMemory : Prop :=
  ∀ (s : State) (d : Byte),
    (∀ code i loc, (code, i, loc) ∈ Rows.incMem d →
      IsCode code i ∧
      OnByte code i s loc fun a v =>
        let res := v + 1
        NextStoring i s { s with
          f := Flags.toByte { s := res.getLsbD 7, z := res == 0, f5 := res.getLsbD 5, h := v.toNat % 16 == 15,
                              f3 := res.getLsbD 3, pv := v == 0x7F, n := false, c := s.flags.c } } a res) ∧
    (∀ code i loc, (code, i, loc) ∈ Rows.decMem d →
      IsCode code i ∧
      OnByte code i s loc fun a v =>
        let res := v - 1
        NextStoring i s { s with
          f := Flags.toByte { s := res.getLsbD 7, z := res == 0, f5 := res.getLsbD 5, h := v.toNat % 16 == 0,
                              f3 := res.getLsbD 3, pv := v == 0x80, n := true, c := s.flags.c } } a res)

/-- 42_arith.md R173 to R176: `add` leaves `S`, `Z` and `PV`; `adc` and `sbc` write them from 16 bits; bits 5 and 3 come from
the high byte of the result. -/
def Obligations.PairArithmetic : Prop :=
  ∀ (s : State),
    (∀ code i dst src, (code, i, dst, src) ∈ Rows.addPair →
      let o := add16 (s.pair dst) (s.pair src) false
      IsCode code i ∧
      exec i s = .next { s.setPair dst o.res with
        f := Flags.toByte { s := s.flags.s, z := s.flags.z, f5 := o.res.getLsbD 13, h := o.h, f3 := o.res.getLsbD 11,
                            pv := s.flags.pv, n := false, c := o.c } }) ∧
    (∀ code i src, (code, i, src) ∈ Rows.adcHl →
      let o := add16 (s.pair .hl) (s.pair src) s.flags.c
      IsCode code i ∧
      exec i s = .next { s.setPair .hl o.res with
        f := Flags.toByte { s := o.s, z := o.z, f5 := o.res.getLsbD 13, h := o.h, f3 := o.res.getLsbD 11, pv := o.v,
                            n := false, c := o.c } }) ∧
    (∀ code i src, (code, i, src) ∈ Rows.sbcHl →
      let o := sub16 (s.pair .hl) (s.pair src) s.flags.c
      IsCode code i ∧
      exec i s = .next { s.setPair .hl o.res with
        f := Flags.toByte { s := o.s, z := o.z, f5 := o.res.getLsbD 13, h := o.h, f3 := o.res.getLsbD 11, pv := o.v,
                            n := true, c := o.c } })

/-- 42_arith.md R177 to R180: modulo 65536, no flag. -/
def Obligations.StepPairs : Prop :=
  ∀ (s : State),
    (∀ code i p, (code, i, p) ∈ Rows.incPair → IsCode code i ∧ exec i s = .next (s.setPair p (s.pair p + 1))) ∧
    (∀ code i p, (code, i, p) ∈ Rows.decPair → IsCode code i ∧ exec i s = .next (s.setPair p (s.pair p - 1)))

/-- 46_logic_control.md R260, R261, R266, R267: `cpl`, `neg`, `ccf`, `scf`. -/
def Obligations.AccumulatorAndCarry : Prop :=
  ∀ (s : State),
    (IsCode [0x2F] .cpl ∧ exec .cpl s = .next { s with
      a := ~~~s.a,
      f := Flags.toByte { s.flags with f5 := (~~~s.a).getLsbD 5, h := true, f3 := (~~~s.a).getLsbD 3, n := true } }) ∧
    (∀ code i, (code, i) ∈ Rows.neg → IsCode code i ∧ exec i s = .next { s with
      a := -s.a,
      f := Flags.toByte { s := (-s.a).getLsbD 7, z := s.a == 0, f5 := (-s.a).getLsbD 5, h := s.a.toNat % 16 != 0,
                          f3 := (-s.a).getLsbD 3, pv := s.a == 0x80, n := true, c := s.a != 0 } }) ∧
    (IsCode [0x3F] .ccf ∧ exec .ccf s = .next { s with
      f := Flags.toByte { s.flags with f5 := s.a.getLsbD 5, h := s.flags.c, f3 := s.a.getLsbD 3, n := false,
                                       c := !s.flags.c } }) ∧
    (IsCode [0x37] .scf ∧ exec .scf s = .next { s with
      f := Flags.toByte { s.flags with f5 := s.a.getLsbD 5, h := false, f3 := s.a.getLsbD 3, n := false, c := true } })

/-- 46_logic_control.md R265: `daa`, the correction, the carry and the half carry written as conditions on the old state. -/
def Obligations.DecimalAdjust : Prop :=
  ∀ (s : State),
    let lo := s.a.toNat % 16
    let low := if s.flags.h = true ∨ 9 < lo then 0x06 else 0
    let high := if s.flags.c = true ∨ 0x99 < s.a.toNat then 0x60 else 0
    let res := if s.flags.n = true then s.a - BitVec.ofNat 8 (low + high) else s.a + BitVec.ofNat 8 (low + high)
    IsCode [0x27] .daa ∧
    exec .daa s = .next { s with
      a := res,
      f := Flags.toByte { s := res.getLsbD 7, z := res == 0, f5 := res.getLsbD 5,
                          h := if s.flags.n = true then s.flags.h && decide (lo < 6) else decide (9 < lo),
                          f3 := res.getLsbD 3, pv := parity res, n := s.flags.n,
                          c := s.flags.c || decide (0x99 < s.a.toNat) } }

/-! ## Stack and control flow -/

/-- 43_stack.md R200 to R202: the high byte goes to `SP - 1`, the low byte to `SP - 2`, where `SP` ends. -/
def Obligations.PushPairs : Prop :=
  ∀ (s : State) code i p, (code, i, p) ∈ Rows.push →
    IsCode code i ∧
    OnStack code i s (s.sp - 1) (s.sp - 2)
      (NextStoringWord i s { s with sp := s.sp - 2 } (s.sp - 2) (s.sp - 1) (lowByte (s.pair p)) (highByte (s.pair p)))

/-- 43_stack.md R200, R203, R204: the low byte from `SP`, the high byte from `SP + 1`, and `SP` past both; `pop af` writes
all of `F`. -/
def Obligations.PopPairs : Prop :=
  ∀ (s : State) code i p, (code, i, p) ∈ Rows.pop →
    IsCode code i ∧
    OnStack code i s s.sp (s.sp + 1)
      (exec i s = .next
        ({ s with sp := s.sp + 2 }.setPair p (joinBytes (s.mem.read (s.sp + 1).toNat) (s.mem.read s.sp.toNat))))

/-- 30_encoding.md R84 on each condition, and 44_control_flow.md R210 to R216: where the program counter goes, and that
nothing else changes but the `B` of `djnz`. -/
def Obligations.Jumps : Prop :=
  ∀ (s : State) (e l h : Byte),
    (s.cond .nz = !s.flags.z ∧ s.cond .z = s.flags.z ∧ s.cond .nc = !s.flags.c ∧ s.cond .c = s.flags.c ∧
      s.cond .po = !s.flags.pv ∧ s.cond .pe = s.flags.pv ∧ s.cond .p = !s.flags.s ∧ s.cond .m = s.flags.s) ∧
    (IsCode [0xC3, l, h] (.jp_nn (joinBytes h l)) ∧
      exec (.jp_nn (joinBytes h l)) s = .next { s with pc := joinBytes h l }) ∧
    (∀ code i cc, (code, i, cc) ∈ Rows.jumpIf l h →
      IsCode code i ∧ exec i s = .next { s with pc := if s.cond cc then joinBytes h l else s.pc }) ∧
    (IsCode [0x18, e] (.jr_e e) ∧ exec (.jr_e e) s = .next { s with pc := s.pc + e.signExtend 16 }) ∧
    (∀ code i cc, (code, i, cc) ∈ Rows.jumpRelIf e →
      IsCode code i ∧ exec i s = .next { s with pc := if s.cond cc then s.pc + e.signExtend 16 else s.pc }) ∧
    (∀ code i p, (code, i, p) ∈ Rows.jumpPair → IsCode code i ∧ exec i s = .next { s with pc := s.pair p }) ∧
    (IsCode [0x10, e] (.djnz_e e) ∧
      exec (.djnz_e e) s = .next { s with b := s.b - 1, pc := if s.b = 1 then s.pc else s.pc + e.signExtend 16 })

/-- 44_control_flow.md R217, R218, R223: the pushed word is `PC`, already past the instruction. -/
def Obligations.Calls : Prop :=
  ∀ (s : State) (l h : Byte),
    let pushes := fun (code : List Byte) (i : Instr) (target : Word) =>
      OnStack code i s (s.sp - 1) (s.sp - 2)
        (NextStoringWord i s { s with sp := s.sp - 2, pc := target } (s.sp - 2) (s.sp - 1) (lowByte s.pc) (highByte s.pc))
    (IsCode [0xCD, l, h] (.call_nn (joinBytes h l)) ∧ pushes [0xCD, l, h] (.call_nn (joinBytes h l)) (joinBytes h l)) ∧
    (∀ code i cc, (code, i, cc) ∈ Rows.callIf l h →
      IsCode code i ∧ (s.cond cc = true → pushes code i (joinBytes h l)) ∧ (s.cond cc = false → exec i s = .next s)) ∧
    (∀ code i p, (code, i, p) ∈ Rows.rst → IsCode code i ∧ pushes code i p)

/-- 44_control_flow.md R219 to R222: `ret`, `ret cc`, `reti`, `retn`. -/
def Obligations.Returns : Prop :=
  ∀ (s : State),
    let target := joinBytes (s.mem.read (s.sp + 1).toNat) (s.mem.read s.sp.toNat)
    let pops := fun (code : List Byte) (i : Instr) =>
      OnStack code i s s.sp (s.sp + 1) (exec i s = .next { s with sp := s.sp + 2, pc := target })
    (IsCode [0xC9] .ret ∧ pops [0xC9] .ret) ∧
    (∀ code i cc, (code, i, cc) ∈ Rows.retIf →
      IsCode code i ∧ (s.cond cc = true → pops code i) ∧ (s.cond cc = false → exec i s = .next s)) ∧
    (∀ code i, (code, i) ∈ Rows.retInt →
      IsCode code i ∧
      OnStack code i s s.sp (s.sp + 1) (exec i s = .next { s with sp := s.sp + 2, pc := target, iff1 := s.iff2 }))

/-- 46_logic_control.md R268 to R272. -/
def Obligations.CpuControl : Prop :=
  ∀ (s : State),
    (IsCode [0x00] .nop ∧ exec .nop s = .next s) ∧
    (IsCode [0x76] .halt ∧ exec .halt s = .next { s with status := .halted }) ∧
    (IsCode [0xF3] .di ∧ exec .di s = .next { s with iff1 := false, iff2 := false }) ∧
    (IsCode [0xFB] .ei ∧ exec .ei s = .next { s with iff1 := true, iff2 := true }) ∧
    (∀ code i mode, (code, i, mode) ∈ Rows.im → IsCode code i ∧ exec i s = .next { s with im := mode })

/-! ## Bits, rotates and shifts -/

/-- 47_bit.md R290 to R292: the flags of `bit`, bits 5 and 3 from the register, the memory byte or the high byte of the
address; nothing else changes. -/
def Obligations.BitTests : Prop :=
  ∀ (s : State) (d : Byte),
    let tested := fun (b : Nat) (v src : Byte) => ({ s with
      f := Flags.toByte { s := decide (b = 7) && v.getLsbD b, z := !v.getLsbD b, f5 := src.getLsbD 5, h := true,
                          f3 := src.getLsbD 3, pv := !v.getLsbD b, n := false, c := s.flags.c } } : State)
    (∀ code i b r, (code, i, b, r) ∈ Rows.bitReg →
      IsCode code i ∧ exec i s = .next (tested b (s.reg8 r) (s.reg8 r))) ∧
    (∀ code i b, (code, i, b) ∈ Rows.bitHl →
      IsCode code i ∧ OnByte code i s .hl fun _ v => exec i s = .next (tested b v v)) ∧
    (∀ code i b x, (code, i, b, x) ∈ Rows.bitIdx d →
      IsCode code i ∧ OnByte code i s (.idx x d) fun a v => exec i s = .next (tested b v (highByte a)))

/-- 47_bit.md R293 and R296: bit `b` of the register becomes 1 or 0, every other bit stays; `F` and everything else are
unchanged. -/
def Obligations.SetResRegister : Prop :=
  ∀ (s : State),
    (∀ code i b r, (code, i, b, r) ∈ Rows.setReg →
      IsCode code i ∧ ∃ v : Byte, exec i s = .next (s.setReg8 r v) ∧
        ∀ k : Nat, k < 8 → v.getLsbD k = if k = b then true else (s.reg8 r).getLsbD k) ∧
    (∀ code i b r, (code, i, b, r) ∈ Rows.resReg →
      IsCode code i ∧ ∃ v : Byte, exec i s = .next (s.setReg8 r v) ∧
        ∀ k : Nat, k < 8 → v.getLsbD k = if k = b then false else (s.reg8 r).getLsbD k)

/-- 47_bit.md R294, R295, R297, R298: the byte with bit `b` at 1 or 0 goes back to memory and, in the forms that name one,
into a register; `F` is unchanged. -/
def Obligations.SetResMemory : Prop :=
  ∀ (s : State) (d : Byte) code i (b : Nat) loc copy (one : Bool),
    (code, i, b, loc, copy) ∈ Rows.setMem d ∧ one = true ∨ (code, i, b, loc, copy) ∈ Rows.resMem d ∧ one = false →
    IsCode code i ∧
    OnByte code i s loc fun a v =>
      ∃ w : Byte, (∀ k : Nat, k < 8 → w.getLsbD k = if k = b then one else v.getLsbD k) ∧
        NextStoring i s (match copy with | some r => s.setReg8 r w | none => s) a w

/-- 49_rotate_shift.md R341 to R352 on a register: the accumulator forms leave `S`, `Z` and `PV`, the others write them. -/
def Obligations.RotateRegisters : Prop :=
  ∀ (s : State),
    (∀ code i op, (code, i, op) ∈ Rows.rotA →
      let o := rot op s.a s.flags.c
      IsCode code i ∧
      exec i s = .next { s with
        a := o.1,
        f := Flags.toByte { s.flags with f5 := o.1.getLsbD 5, h := false, f3 := o.1.getLsbD 3, n := false, c := o.2 } }) ∧
    (∀ code i op r, (code, i, op, r) ∈ Rows.rotReg →
      let o := rot op (s.reg8 r) s.flags.c
      IsCode code i ∧
      exec i s = .next { s.setReg8 r o.1 with
        f := Flags.toByte { s := o.1.getLsbD 7, z := o.1 == 0, f5 := o.1.getLsbD 5, h := false, f3 := o.1.getLsbD 3,
                            pv := parity o.1, n := false, c := o.2 } })

/-- 49_rotate_shift.md R345 to R352 on a memory byte, with the copy of 30_encoding.md R92 into a register. -/
def Obligations.RotateMemory : Prop :=
  ∀ (s : State) (d : Byte) code i op loc copy, (code, i, op, loc, copy) ∈ Rows.rotMem d →
    IsCode code i ∧
    OnByte code i s loc fun a v =>
      let o := rot op v s.flags.c
      NextStoring i s { (match copy with | some r => s.setReg8 r o.1 | none => s) with
        f := Flags.toByte { s := o.1.getLsbD 7, z := o.1 == 0, f5 := o.1.getLsbD 5, h := false, f3 := o.1.getLsbD 3,
                            pv := parity o.1, n := false, c := o.2 } } a o.1

/-- 49_rotate_shift.md R353 and R354: the nibbles of `A` and the byte at `HL`; `C` is unchanged. -/
def Obligations.RotateDecimal : Prop :=
  ∀ (s : State) code i (mem' a' : Byte → Byte),
    (code, i) = ([0xED, 0x6F], .rld) ∧
      mem' = (fun m => BitVec.ofNat 8 (m.toNat % 16 * 16 + s.a.toNat % 16)) ∧
      a' = (fun m => BitVec.ofNat 8 (s.a.toNat / 16 * 16 + m.toNat / 16)) ∨
    (code, i) = ([0xED, 0x67], .rrd) ∧
      mem' = (fun m => BitVec.ofNat 8 (s.a.toNat % 16 * 16 + m.toNat / 16)) ∧
      a' = (fun m => BitVec.ofNat 8 (s.a.toNat / 16 * 16 + m.toNat % 16)) →
    IsCode code i ∧
    OnByte code i s .hl fun a m =>
      NextStoring i s { s with
        a := a' m,
        f := Flags.toByte { s := (a' m).getLsbD 7, z := a' m == 0, f5 := (a' m).getLsbD 5, h := false,
                            f3 := (a' m).getLsbD 3, pv := parity (a' m), n := false, c := s.flags.c } } a (mem' m)

/-! ## Ports and blocks -/

/-- 48_io.md R310 to R315: the port address is `n` or `C`; only `in r,(c)` and `in (c)` write flags. -/
def Obligations.PortTransfers : Prop :=
  ∀ (s : State) (n : Byte),
    let wrote := fun (i : Instr) (p v : Byte) =>
      ∃ t, exec i s = .next t ∧ t = { s with ports := t.ports } ∧
        ∀ q : Byte, t.portRead q = if q = p then v else s.portRead q
    (IsCode [0xDB, n] (.in_a_mn n) ∧ exec (.in_a_mn n) s = .next { s with a := s.portRead n }) ∧
    (∀ code i dst, (code, i, dst) ∈ Rows.inPort →
      let v := s.portRead s.c
      IsCode code i ∧
      exec i s = .next { (match dst with | some r => s.setReg8 r v | none => s) with
        f := Flags.toByte { s := v.getLsbD 7, z := v == 0, f5 := v.getLsbD 5, h := false, f3 := v.getLsbD 3,
                            pv := parity v, n := false, c := s.flags.c } }) ∧
    (IsCode [0xD3, n] (.out_mn_a n) ∧ wrote (.out_mn_a n) n s.a) ∧
    (∀ code i src, (code, i, src) ∈ Rows.outReg → IsCode code i ∧ wrote i s.c (s.reg8 src)) ∧
    (IsCode [0xED, 0x71] .out_mc_0 ∧ wrote .out_mc_0 s.c 0)

/-- 45_compare_block.md R241, R242, R244: one byte from `(HL)` to `(DE)`, the three pairs stepped, `S`, `Z`, `C` unchanged;
bits 5 and 3 by 30_encoding.md R101. -/
def Obligations.BlockTransferStep : Prop :=
  ∀ (s : State) code i dir,
    (code, i, dir) ∈ ([([0xED, 0xA0], .ldi, .up), ([0xED, 0xA8], .ldd, .down)] : List (List Byte × Instr × Dir)) →
    IsCode code i ∧
    OnStack code i s (s.pair .hl) (s.pair .de)
      (let v := s.mem.read (s.pair .hl).toNat
       NextStoring i s { ((s.setPair .hl (reach dir (s.pair .hl) 1)).setPair .de (reach dir (s.pair .de) 1)).setPair .bc
            (s.pair .bc - 1) with
         f := Flags.toByte { s.flags with h := false, n := false, pv := s.pair .bc - 1 != 0,
                                          f5 := drawn s 0 ((v + s.a).getLsbD 1), f3 := drawn s 1 ((v + s.a).getLsbD 3) },
         draws := drawsAfter s 2 } (s.pair .de) v)

/-- 45_compare_block.md R246, R247, R249: `A` compared with `(HL)`, `A`, `C` and memory unchanged. -/
def Obligations.BlockSearchStep : Prop :=
  ∀ (s : State) code i dir,
    (code, i, dir) ∈ ([([0xED, 0xA1], .cpi, .up), ([0xED, 0xA9], .cpd, .down)] : List (List Byte × Instr × Dir)) →
    IsCode code i ∧
    OnByte code i s .hl fun _ v =>
      let o := sub8 s.a v false
      let t := o.res - BitVec.ofNat 8 o.h.toNat
      exec i s = .next { (s.setPair .hl (reach dir (s.pair .hl) 1)).setPair .bc (s.pair .bc - 1) with
        f := Flags.toByte { s := o.s, z := o.z, f5 := drawn s 0 (t.getLsbD 1), h := o.h, f3 := drawn s 1 (t.getLsbD 3),
                            pv := s.pair .bc - 1 != 0, n := true, c := s.flags.c },
        draws := drawsAfter s 2 }

/-- 48_io.md R316, R317, R319, R321, R323: one byte between port `C` and `(HL)`, `HL` and `B` stepped, `C` unchanged; only
`Z` is the source's, the other flags are R101's. -/
def Obligations.BlockIoStep : Prop :=
  ∀ (s : State),
    (∀ code i dir,
      (code, i, dir) ∈ ([([0xED, 0xA2], .ini, .up), ([0xED, 0xAA], .ind, .down)] : List (List Byte × Instr × Dir)) →
      IsCode code i ∧
      OnByte code i s .hl fun a _ =>
        let v := s.portRead s.c
        NextStoring i s { (s.setPair .hl (reach dir a 1)).setReg8 .b (s.b - 1) with
          f := Flags.toByte (blockIoFlags s 0 v (s.b - 1) (v.toNat + (dir.step8 s.c).toNat)),
          draws := drawsAfter s 7 } a v) ∧
    (∀ code i dir,
      (code, i, dir) ∈ ([([0xED, 0xA3], .outi, .up), ([0xED, 0xAB], .outd, .down)] : List (List Byte × Instr × Dir)) →
      IsCode code i ∧
      OnByte code i s .hl fun a v =>
        ∃ t, exec i s = .next t ∧
          t = { (s.setPair .hl (reach dir a 1)).setReg8 .b (s.b - 1) with
            f := Flags.toByte (blockIoFlags s 0 v (s.b - 1) (v.toNat + (lowByte (reach dir a 1)).toNat)),
            ports := t.ports, draws := drawsAfter s 7 } ∧
          ∀ q : Byte, t.portRead q = if q = s.c then v else s.portRead q)

/-- 45_compare_block.md R243 and R245: `BC` moves, zero counting 65536, byte by byte in order, in one step; each move after
the first adds 2 to `R` under `R_MODE = M1`; a missing cell raises `OutOfRange` in the first move that reaches it. -/
def Obligations.BlockTransferRepeat : Prop :=
  ∀ (s : State) code i dir,
    (code, i, dir) ∈ ([([0xED, 0xB0], .ldir, .up), ([0xED, 0xB8], .lddr, .down)] : List (List Byte × Instr × Dir)) →
    let src := reach dir (s.pair .hl)
    let dst := reach dir (s.pair .de)
    let n := wordCount s
    IsCode code i ∧
    ((∀ k, k < n → s.inMem (src k) ∧ s.inMem (dst k)) →
      let v := (movedBytes dir (s.pair .hl) (s.pair .de) (n - 1) s.mem).read (src (n - 1)).toNat
      exec i s = .next { ((s.setPair .hl (src n)).setPair .de (dst n)).setPair .bc 0 with
        f := Flags.toByte { s.flags with h := false, n := false, pv := false,
                                         f5 := drawn s (2 * (n - 1)) ((v + s.a).getLsbD 1),
                                         f3 := drawn s (2 * (n - 1) + 1) ((v + s.a).getLsbD 3) },
        mem := movedBytes dir (s.pair .hl) (s.pair .de) n s.mem,
        r := refreshed s (2 * (n - 1)), draws := drawsAfter s (2 * n) } ∧
      ∀ a : Nat, (∀ k, k < n → a ≠ (dst k).toNat) →
        (movedBytes dir (s.pair .hl) (s.pair .de) n s.mem).read a = s.mem.read a) ∧
    (∀ k, k < n → (∀ j, j < k → s.inMem (src j) ∧ s.inMem (dst j)) →
      (¬ s.inMem (src k) → RaisesAt code i s (src k)) ∧
      (s.inMem (src k) → ¬ s.inMem (dst k) → RaisesAt code i s (dst k)))

/-- 45_compare_block.md R248 and R250: the search runs `n` iterations, `n` the first at which the byte is `A` or the count
is used up. -/
def Obligations.BlockSearchRepeat : Prop :=
  ∀ (s : State) code i dir,
    (code, i, dir) ∈ ([([0xED, 0xB1], .cpir, .up), ([0xED, 0xB9], .cpdr, .down)] : List (List Byte × Instr × Dir)) →
    let at_ := reach dir (s.pair .hl)
    IsCode code i ∧
    (∀ n, 1 ≤ n → n ≤ wordCount s → (∀ k, k < n → s.inMem (at_ k)) →
      (∀ k, k + 1 < n → s.mem.read (at_ k).toNat ≠ s.a) →
      (n = wordCount s ∨ s.mem.read (at_ (n - 1)).toNat = s.a) →
      let o := sub8 s.a (s.mem.read (at_ (n - 1)).toNat) false
      let t := o.res - BitVec.ofNat 8 o.h.toNat
      exec i s = .next { (s.setPair .hl (at_ n)).setPair .bc (s.pair .bc - BitVec.ofNat 16 n) with
        f := Flags.toByte { s := o.s, z := o.z, f5 := drawn s (2 * (n - 1)) (t.getLsbD 1), h := o.h,
                            f3 := drawn s (2 * (n - 1) + 1) (t.getLsbD 3),
                            pv := s.pair .bc - BitVec.ofNat 16 n != 0, n := true, c := s.flags.c },
        r := refreshed s (2 * (n - 1)), draws := drawsAfter s (2 * n) }) ∧
    (∀ k, k < wordCount s → (∀ j, j < k → s.inMem (at_ j) ∧ s.mem.read (at_ j).toNat ≠ s.a) →
      ¬ s.inMem (at_ k) → RaisesAt code i s (at_ k))

/-- 48_io.md R318, R320, R322, R324: `B` transfers, zero counting 256, in one step. -/
def Obligations.BlockIoRepeat : Prop :=
  ∀ (s : State),
    let n := byteCount s
    (∀ code i dir,
      (code, i, dir) ∈ ([([0xED, 0xB2], .inir, .up), ([0xED, 0xBA], .indr, .down)] : List (List Byte × Instr × Dir)) →
      let at_ := reach dir (s.pair .hl)
      let v := s.portRead s.c
      IsCode code i ∧
      ((∀ k, k < n → s.inMem (at_ k)) →
        ∃ t, exec i s = .next t ∧
          t = { (s.setPair .hl (at_ n)).setReg8 .b 0 with
            f := Flags.toByte (blockIoFlags s (7 * (n - 1)) v 0 (v.toNat + (dir.step8 s.c).toNat)),
            mem := t.mem, r := refreshed s (2 * (n - 1)), draws := drawsAfter s (7 * n) } ∧
          (∀ k, k < n → t.mem.read (at_ k).toNat = v) ∧
          ∀ a : Nat, (∀ k, k < n → a ≠ (at_ k).toNat) → t.mem.read a = s.mem.read a) ∧
      (∀ k, k < n → (∀ j, j < k → s.inMem (at_ j)) → ¬ s.inMem (at_ k) → RaisesAt code i s (at_ k))) ∧
    (∀ code i dir,
      (code, i, dir) ∈ ([([0xED, 0xB3], .otir, .up), ([0xED, 0xBB], .otdr, .down)] : List (List Byte × Instr × Dir)) →
      let at_ := reach dir (s.pair .hl)
      IsCode code i ∧
      ((∀ k, k < n → s.inMem (at_ k)) →
        let v := s.mem.read (at_ (n - 1)).toNat
        ∃ t, exec i s = .next t ∧
          t = { (s.setPair .hl (at_ n)).setReg8 .b 0 with
            f := Flags.toByte (blockIoFlags s (7 * (n - 1)) v 0 (v.toNat + (lowByte (at_ n)).toNat)),
            ports := t.ports, r := refreshed s (2 * (n - 1)), draws := drawsAfter s (7 * n) } ∧
          ∀ q : Byte, t.portRead q = if q = s.c then v else s.portRead q) ∧
      (∀ k, k < n → (∀ j, j < k → s.inMem (at_ j)) → ¬ s.inMem (at_ k) → RaisesAt code i s (at_ k)))

/-! ## Decoding -/

/-- Words written out bit by bit from the spec's encodings, one of each family, decode to the instruction they stand for. -/
def Obligations.DecodedWords : Prop :=
  decode [0b01000001#8] = .ok (.ld_b_c, []) ∧
  decode [0b11011101#8, 0b00110110#8, 0b00000011#8, 0b01000010#8] = .ok (.ld_mixd_n 0x03 0x42, []) ∧
  decode [0b11101101#8, 0b01111011#8, 0b00000000#8, 0b00100000#8] = .ok (.ld_sp_mnn 0x2000, []) ∧
  decode [0b11100011#8] = .ok (.ex_msp_hl, []) ∧
  decode [0b10001111#8] = .ok (.adc_a_a, []) ∧
  decode [0b11101101#8, 0b01101010#8] = .ok (.adc_hl_hl, []) ∧
  decode [0b11110101#8] = .ok (.push_af, []) ∧
  decode [0b11001010#8, 0b00110100#8, 0b00010010#8] = .ok (.jp_z_nn 0x1234, []) ∧
  decode [0b00111000#8, 0b11111011#8] = .ok (.jr_c_e 0xFB, []) ∧
  decode [0b11101101#8, 0b10111001#8] = .ok (.cpdr, []) ∧
  decode [0b11111110#8, 0b00100000#8] = .ok (.cp_n 0x20, []) ∧
  decode [0b11101101#8, 0b01011110#8] = .ok (.im_2 3, []) ∧
  decode [0b11001011#8, 0b01111111#8] = .ok (.bit_7_a, []) ∧
  decode [0b11111101#8, 0b11001011#8, 0b11111111#8, 0b10111110#8] = .ok (.res_7_miyd 0xFF, []) ∧
  decode [0b11101101#8, 0b01000001#8] = .ok (.out_mc_b, []) ∧
  decode [0b11011101#8, 0b11001011#8, 0b00000001#8, 0b00111110#8] = .ok (.srl_mixd 0x01, []) ∧
  decode [0b11101101#8, 0b01101111#8] = .ok (.rld, [])

/-- 30_encoding.md R88 to R92: every instruction of the table, with every value of its operands, decodes from its own bytes,
whatever follows. -/
def Obligations.DecodeEncode : Prop :=
  ∀ (i : Instr) (rest : List Byte), WellFormed i → decode (encode i ++ rest) = .ok (i, rest)

/-- 30_encoding.md R80, R93, R94: what decodes is a well-formed instruction whose bytes are those read, one to four of them;
so each word has one meaning and the decoder drops no bit. -/
def Obligations.EncodeDecode : Prop :=
  ∀ (bytes rest : List Byte) (i : Instr), decode bytes = .ok (i, rest) →
    WellFormed i ∧ bytes = encode i ++ rest ∧ 1 ≤ (encode i).length ∧ (encode i).length ≤ 4

/-- 30_encoding.md R89 to R93: the bytes that are no instruction are exactly an `ED` with a second byte outside R90's table
and a `DD` or `FD` with one outside R91's. -/
def Obligations.IllegalEncodings : Prop :=
  ∀ (bytes : List Byte) (b0 b1 : Byte),
    decode bytes = .error (.illegal b0 b1) ↔
      (∃ rest, bytes = b0 :: b1 :: rest) ∧
      (b0 = 0xED ∧ edLegal b1 = false ∨ (b0 = 0xDD ∨ b0 = 0xFD) ∧ xyLegal b1 = false)

/-! ## The step -/

/-- 30_encoding.md R95, R96, R102 and 10_state.md R26: when memory holds an instruction's bytes at `PC`, the step executes
that instruction, with `PC` past it and `R` advanced by its opcode fetches. -/
def Obligations.StepRunsDecoded : Prop :=
  ∀ (s : State) (code : List Byte) (i : Instr), s.status = .run → IsCode code i → CodeAtPc s code →
    step s = exec i { s with
      pc := s.pc + BitVec.ofNat 16 code.length,
      r := refreshed s (if code.head? ∈ [some 0xCB, some 0xDD, some 0xED, some 0xFD] then 2 else 1) }

/-- 30_encoding.md R96 and 60_exceptions.md R371, R372, R375: a fetch after the first byte at an address that does not exist
raises `OutOfRange` there; two bytes that are no encoding raise `IllegalOpcode`. -/
def Obligations.FetchFaults : Prop :=
  ∀ (s : State), s.status = .run →
    (∀ (code : List Byte) (i : Instr) (k : Nat), IsCode code i → 1 ≤ k → k < code.length → CodeAtPc s (code.take k) →
      ¬ s.inMem (s.pc + BitVec.ofNat 16 k) →
      ∃ t, step s = .next t ∧ t.status = .fault (.outOfRange .mem (s.pc + BitVec.ofNat 16 k).toNat s.pc)) ∧
    (∀ b0 b1 : Byte, CodeAtPc s [b0, b1] →
      (b0 = 0xED ∧ edLegal b1 = false ∨ (b0 = 0xDD ∨ b0 = 0xFD) ∧ xyLegal b1 = false) →
      ∃ t, step s = .next t ∧ t.status = .fault (.illegalOpcode b0 b1 s.pc))

/-- 60_exceptions.md R370, R374 and 10_state.md R33: the end of memory changes the status alone; every step from `RUN` answers
a next state, which still runs, is halted, is at the end of memory or has faulted and then holds the fault in `status`; from
any other status there is no step (the model's `Fault.notRunning`, notes/assumptions/6.md). -/
def Obligations.StepOutcomes : Prop :=
  ∀ (s : State),
    (s.status = .run → ¬ s.inMem s.pc → step s = .next { s with status := .eom }) ∧
    (s.status = .run → s.inMem s.pc → ∃ t, step s = .next t ∧
      t.params = s.params ∧
      (t.status = .run ∨ t.status = .halted ∨ ∃ info, t.status = .fault info ∧ step t = .fault (.notRunning (.fault info)))) ∧
    (s.status ≠ .run → step s = .fault (.notRunning s.status))

/-- 60_exceptions.md R371: "With `MEM_SIZE = 65536` and `ADDR_WRAP = WRAP` it is never raised": there every instruction
completes and none but `halt` changes the status, and no step raises `OutOfRange` or ends memory. -/
def Obligations.FullMemoryNeverFaults : Prop :=
  ∀ (s : State), s.fullMemory →
    (∀ i : Instr, ∃ t, exec i s = .next t ∧ t.status = if i = .halt then .halted else s.status) ∧
    (∀ t, step s = .next t → t.status ≠ .eom ∧ ∀ space a pc0, t.status ≠ .fault (.outOfRange space a pc0))

/-- Which instructions write the state that few do, whole-machine rules of 10_state.md R21, R30, R31, R32, R38, 20_memory.md
R50, R52 and 60_exceptions.md R376: over every instruction that does not fault. -/
def Obligations.WhoWritesWhat : Prop :=
  ∀ (i : Instr) (s t : State), exec i s = .next t → t.status.isFault = false →
    t.params = s.params ∧
    (i ≠ .halt → t.status = s.status) ∧
    (i ≠ .ex_af_af → t.a' = s.a' ∧ t.f' = s.f') ∧
    (i ≠ .exx → t.b' = s.b' ∧ t.c' = s.c' ∧ t.d' = s.d' ∧ t.e' = s.e' ∧ t.h' = s.h' ∧ t.l' = s.l') ∧
    (i ≠ .ld_i_a → t.i = s.i) ∧
    (i ≠ .di → i ≠ .ei → t.iff2 = s.iff2) ∧
    (i ≠ .di → i ≠ .ei → i ≠ .reti → (∀ y, i ≠ .retn y) → t.iff1 = s.iff1) ∧
    ((∀ y, i ≠ .im_0 y ∧ i ≠ .im_0_1 y ∧ i ≠ .im_1 y ∧ i ≠ .im_2 y) → t.im = s.im) ∧
    (i ≠ .ld_r_a →
      (s.params.rMode = .frozen ∨
        i ≠ .ldir ∧ i ≠ .lddr ∧ i ≠ .cpir ∧ i ≠ .cpdr ∧ i ≠ .inir ∧ i ≠ .indr ∧ i ≠ .otir ∧ i ≠ .otdr) → t.r = s.r) ∧
    ((∀ n, i ≠ .out_mn_a n) →
      i ∉ ([.out_mc_0, .outi, .outd, .otir, .otdr] : List Instr) → (∀ code r, (code, i, r) ∉ Rows.outReg) →
      t.ports = s.ports)

/-! ## Invariants -/

/-- Reset satisfies the invariant, with the model's standard parameters and launch values (notes/assumptions/1.md to
3.md), and with any whose memories are canonical. -/
def Obligations.ResetInvariant : Prop :=
  State.reset.Inv ∧
  ∀ (p : Params) (x : Launch), p.wf = true → x.mem.wf p.memSize = true → x.ports.wf 256 = true →
    (State.ofLaunch p x).Inv

/-- Every step keeps the invariant, faults included: `MEM_SIZE` in its range, memory and ports in canonical form within
their size (20_memory.md R50, R52), `IM` never 3 (10_state.md R31). -/
def Obligations.StepKeepsInvariant : Prop :=
  ∀ (s t : State), s.Inv → step s = .next t → t.Inv

/-! ## The host -/

/-- 70_reset_and_hazards.md R402, the loop one pass at a time: out of `RUN` the run returns the state as it is; in `RUN` at the
stop address (`PC >= STOP`, tested before every step, the first included) it returns the state, still in `RUN`; in `RUN` and not
at the stop address it takes the step and goes on from the next state. So a run that returns has left `RUN` or is at its stop
address, and no run meets a step without a next state. The bound `fuel` on the steps is the model's (notes/assumptions/10.md). -/
def Obligations.RunLoop : Prop :=
  ∀ (stop : Option Word) (fuel : Nat) (s : State),
    (s.status ≠ .run → run stop fuel s = .ended s) ∧
    (s.status = .run → (∃ x, stop = some x ∧ x.toNat ≤ s.pc.toNat) → run stop fuel s = .stopped s) ∧
    (s.status = .run → (∀ x, stop = some x → s.pc.toNat < x.toNat) →
      run stop 0 s = .running s ∧ ∃ t, step s = .next t ∧ run stop (fuel + 1) s = run stop fuel t) ∧
    (∀ t, run stop fuel s = .stopped t → t.status = .run ∧ ∃ x, stop = some x ∧ x.toNat ≤ t.pc.toNat) ∧
    (∀ t, run stop fuel s = .ended t → t.status ≠ .run) ∧
    (∀ t, run stop fuel s = .running t → t.status = .run ∧ ∀ x, stop = some x → t.pc.toNat < x.toNat) ∧
    run stop fuel s ≠ .noStep

/-- 70_reset_and_hazards.md R403: the named instruction takes its operand bytes from `PC`, its opcode bytes are not fetched,
and it then executes as in a step; a `DDCB` or `FDCB` row fetches `d` and skips one byte. Unless the status is `RUN` the call
is refused (93_implementation_defined.md U13). Two clauses of the equality with `exec` are the model's own choice and no rule's
(DESIGN CHOICE, unsafe, notes/assumptions/11.md): a fault of the execute phase records as `pc0` the `PC` of the call less the
row's opcode fetches, where R403 gives no first byte; and the skipped byte is not read, so it cannot fault. -/
def Obligations.ExecuteOneInstruction : Prop :=
  ∀ (s : State) (ins i : Instr) (code : List Byte),
    (s.status ≠ .run → executeOne ins s = .refused (.executeOneNotRunning s.status)) ∧
    (s.status = .run → WellFormed ins → IsCode code i → (encode ins).length = code.length →
      let fetched := if code.head? ∈ [some 0xCB, some 0xDD, some 0xED, some 0xFD] then 2 else 1
      ((∀ b0 d op, code ≠ [b0, 0xCB, d, op]) → (encode ins).take fetched = code.take fetched →
        CodeAtPc s (code.drop fetched) →
        executeOne ins s = exec i { s with
          pc := s.pc + BitVec.ofNat 16 (code.length - fetched), r := refreshed s fetched }) ∧
      (∀ b0 d d' op, code = [b0, 0xCB, d, op] → encode ins = [b0, 0xCB, d', op] → CodeAtPc s [d] →
        executeOne ins s = exec i { s with pc := s.pc + 2, r := refreshed s 2 }))

/-- 70_reset_and_hazards.md R404, 10_state.md R23 and R25: a named register reads back what the host writes, no other 8-bit
name changes, and a composite is its two halves in both directions. -/
def Obligations.HostRegisters : Prop :=
  ∀ (s : State),
    (∀ n m v, (s.setHost8 n v).host8 m = if m = n then v else s.host8 m) ∧
    (∀ n v, (s.setHost16 n v).host16 n = v) ∧
    (∀ n hi lo,
      (n, hi, lo) ∈ ([(.af, .a, .f), (.bc, .b, .c), (.de, .d, .e), (.hl, .h, .l), (.ix, .ixh, .ixl), (.iy, .iyh, .iyl),
        (.af', .a', .f'), (.bc', .b', .c'), (.de', .d', .e'), (.hl', .h', .l')] : List (Name16 × Name8 × Name8)) →
      s.host16 n = joinBytes (s.host8 hi) (s.host8 lo) ∧
      ∀ v, s.setHost16 n v = (s.setHost8 hi (highByte v)).setHost8 lo (lowByte v)) ∧
    s.setHost16 .pc = (fun v => { s with pc := v }) ∧ s.setHost16 .sp = (fun v => { s with sp := v })

end
end

