-- ==== Sys2Proof/Laws/Forms.lean ====
section
/-! SUPPORT. What a step can do, said once: every instruction is one of the shared operations on its operands
(`exec_eq_run`), so that a law over all instructions is a case analysis over the operations, not over the 1137 texts. -/

namespace Sys2Proof.Laws

open Sys2Proof.Machine

/-- The shared operations with their operands. -/
inductive Form where
  | loadReg (dst src : Reg8)
  | loadImm (dst : Reg8) (n : Byte)
  | loadMem (len : Nat) (dst : Reg8) (loc : Loc)
  | storeReg (len : Nat) (loc : Loc) (src : Reg8)
  | storeImm (len : Nat) (loc : Loc) (n : Byte)
  | loadAI
  | loadAR
  | loadIA
  | loadRA
  | loadPair (dst : Pair) (nn : Word)
  | loadSp (src : Pair)
  | loadPairMem (len : Nat) (dst : Pair) (nn : Word)
  | storePair (len : Nat) (nn : Word) (src : Pair)
  | exDeHl
  | exAf
  | exx
  | exTop (len : Nat) (p : Pair)
  | add (len : Nat) (src : Src8)
  | adc (len : Nat) (src : Src8)
  | sub (len : Nat) (src : Src8)
  | sbc (len : Nat) (src : Src8)
  | incReg (r : Reg8)
  | decReg (r : Reg8)
  | incMem (len : Nat) (loc : Loc)
  | decMem (len : Nat) (loc : Loc)
  | addPair (dst src : Pair)
  | adcHl (src : Pair)
  | sbcHl (src : Pair)
  | incPair (p : Pair)
  | decPair (p : Pair)
  | push (len : Nat) (p : Pair)
  | pop (len : Nat) (p : Pair)
  | jump (nn : Word)
  | jumpIf (cc : Cond) (nn : Word)
  | jumpRel (e : Byte)
  | jumpRelIf (cc : Cond) (e : Byte)
  | jumpPair (p : Pair)
  | djnz (e : Byte)
  | call (len : Nat) (target : Word)
  | callIf (cc : Cond) (nn : Word)
  | ret
  | retIf (cc : Cond)
  | retInt
  | cp (len : Nat) (src : Src8)
  | ldOnce (dir : Dir)
  | ldRepeat (dir : Dir)
  | cpOnce (dir : Dir)
  | cpRepeat (dir : Dir)
  | cpl
  | neg
  | and (len : Nat) (src : Src8)
  | or (len : Nat) (src : Src8)
  | xor (len : Nat) (src : Src8)
  | daa
  | ccf
  | scf
  | nop
  | halt
  | di
  | ei
  | im (mode : BitVec 2)
  | bitReg (b : Nat) (r : Reg8)
  | bitHl (b : Nat)
  | bitIdx (b : Nat) (x : Idx) (d : Byte)
  | setReg (b : Nat) (r : Reg8)
  | resReg (b : Nat) (r : Reg8)
  | setMem (len b : Nat) (loc : Loc) (copy : Option Reg8)
  | resMem (len b : Nat) (loc : Loc) (copy : Option Reg8)
  | inImm (n : Byte)
  | inPort (dst : Option Reg8)
  | outImm (n : Byte)
  | outReg (r : Reg8)
  | outZero
  | inOnce (dir : Dir)
  | inRepeat (dir : Dir)
  | outOnce (dir : Dir)
  | outRepeat (dir : Dir)
  | rotA (op : RotOp)
  | rotReg (op : RotOp) (r : Reg8)
  | rotMem (len : Nat) (op : RotOp) (loc : Loc) (copy : Option Reg8)
  | rld
  | rrd

/-- The operation on a state. -/
def runForm (form : Form) (s : State) : Host.Outcome State Fault Refusal :=
  match form with
  | .loadReg dst src => loadReg dst src s
  | .loadImm dst n => loadImm dst n s
  | .loadMem len dst loc => loadFromMem len dst loc s
  | .storeReg len loc src => storeToMem len loc (s.reg8 src) s
  | .storeImm len loc n => storeToMem len loc n s
  | .loadAI => exec_ld_a_i s
  | .loadAR => exec_ld_a_r s
  | .loadIA => exec_ld_i_a s
  | .loadRA => exec_ld_r_a s
  | .loadPair dst nn => loadPair dst nn s
  | .loadSp src => loadPair .sp (s.pair src) s
  | .loadPairMem len dst nn => loadPairFromMem len dst nn s
  | .storePair len nn src => storePairToMem len nn src s
  | .exDeHl => exec_ex_de_hl s
  | .exAf => exec_ex_af_af s
  | .exx => exec_exx s
  | .exTop len p => exchangeTop len p s
  | .add len src => addToA len src false s
  | .adc len src => addToA len src s.flags.c s
  | .sub len src => subFromA len src false s
  | .sbc len src => subFromA len src s.flags.c s
  | .incReg r => incReg r s
  | .decReg r => decReg r s
  | .incMem len loc => incMem len loc s
  | .decMem len loc => decMem len loc s
  | .addPair dst src => addPair dst src s
  | .adcHl src => adcHl src s
  | .sbcHl src => sbcHl src s
  | .incPair p => incPair p s
  | .decPair p => decPair p s
  | .push len p => pushPair len p s
  | .pop len p => popPair len p s
  | .jump nn => jumpIf true nn s
  | .jumpIf cc nn => jumpIf (s.cond cc) nn s
  | .jumpRel e => jumpIf true (s.relTarget e) s
  | .jumpRelIf cc e => jumpIf (s.cond cc) (s.relTarget e) s
  | .jumpPair p => jumpIf true (s.pair p) s
  | .djnz e => decJump e s
  | .call len target => callTo len target s
  | .callIf cc nn => callIf 3 (s.cond cc) nn s
  | .ret => retTo 1 s
  | .retIf cc => retIf 1 (s.cond cc) s
  | .retInt => retInterrupt 2 s
  | .cp len src => compareA len src s
  | .ldOnce dir => s.finish 2 (ldStep dir s)
  | .ldRepeat dir => s.finish 2 (repeatBlock (ldStep dir) bcNotZero wordIterations s)
  | .cpOnce dir => s.finish 2 (cpStep dir s)
  | .cpRepeat dir => s.finish 2 (repeatBlock (cpStep dir) searchGoesOn wordIterations s)
  | .cpl => exec_cpl s
  | .neg => exec_neg s
  | .and len src => logicA len (· &&& ·) true src s
  | .or len src => logicA len (· ||| ·) false src s
  | .xor len src => logicA len (· ^^^ ·) false src s
  | .daa => exec_daa s
  | .ccf => exec_ccf s
  | .scf => exec_scf s
  | .nop => exec_nop s
  | .halt => exec_halt s
  | .di => exec_di s
  | .ei => exec_ei s
  | .im mode => .next { s with im := mode }
  | .bitReg b r => bitReg b r s
  | .bitHl b => bitHl b s
  | .bitIdx b x d => bitIdx b x d s
  | .setReg b r => mapReg (setBit b) r s
  | .resReg b r => mapReg (resBit b) r s
  | .setMem len b loc copy => mapMem len (setBit b) loc copy s
  | .resMem len b loc copy => mapMem len (resBit b) loc copy s
  | .inImm n => exec_in_a_mn n s
  | .inPort dst => inPort dst s
  | .outImm n => exec_out_mn_a n s
  | .outReg r => outPort (s.reg8 r) s
  | .outZero => outPort 0 s
  | .inOnce dir => s.finish 2 (inStep dir s)
  | .inRepeat dir => s.finish 2 (repeatBlock (inStep dir) bNotZero byteIterations s)
  | .outOnce dir => s.finish 2 (outStep dir s)
  | .outRepeat dir => s.finish 2 (repeatBlock (outStep dir) bNotZero byteIterations s)
  | .rotA op => rotA op s
  | .rotReg op r => rotReg op r s
  | .rotMem len op loc copy => rotMem len op loc copy s
  | .rld => exec_rld s
  | .rrd => exec_rrd s

/-- The operation each instruction is. -/
def form (i : Instr) : Form :=
  match i with
  | .nop => .nop
  | .ld_bc_nn nn => .loadPair .bc nn
  | .ld_mbc_a => .storeReg 1 .bc .a
  | .inc_bc => .incPair .bc
  | .inc_b => .incReg .b
  | .dec_b => .decReg .b
  | .ld_b_n n => .loadImm .b n
  | .rlca => .rotA .rlc
  | .ex_af_af => .exAf
  | .add_hl_bc => .addPair .hl .bc
  | .ld_a_mbc => .loadMem 1 .a .bc
  | .dec_bc => .decPair .bc
  | .inc_c => .incReg .c
  | .dec_c => .decReg .c
  | .ld_c_n n => .loadImm .c n
  | .rrca => .rotA .rrc
  | .djnz_e e => .djnz e
  | .ld_de_nn nn => .loadPair .de nn
  | .ld_mde_a => .storeReg 1 .de .a
  | .inc_de => .incPair .de
  | .inc_d => .incReg .d
  | .dec_d => .decReg .d
  | .ld_d_n n => .loadImm .d n
  | .rla => .rotA .rl
  | .jr_e e => .jumpRel e
  | .add_hl_de => .addPair .hl .de
  | .ld_a_mde => .loadMem 1 .a .de
  | .dec_de => .decPair .de
  | .inc_e => .incReg .e
  | .dec_e => .decReg .e
  | .ld_e_n n => .loadImm .e n
  | .rra => .rotA .rr
  | .jr_nz_e e => .jumpRelIf .nz e
  | .ld_hl_nn nn => .loadPair .hl nn
  | .ld_mnn_hl ed nn => .storePair (if ed then 4 else 3) nn .hl
  | .inc_hl => .incPair .hl
  | .inc_h => .incReg .h
  | .dec_h => .decReg .h
  | .ld_h_n n => .loadImm .h n
  | .daa => .daa
  | .jr_z_e e => .jumpRelIf .z e
  | .add_hl_hl => .addPair .hl .hl
  | .ld_hl_mnn ed nn => .loadPairMem (if ed then 4 else 3) .hl nn
  | .dec_hl => .decPair .hl
  | .inc_l => .incReg .l
  | .dec_l => .decReg .l
  | .ld_l_n n => .loadImm .l n
  | .cpl => .cpl
  | .jr_nc_e e => .jumpRelIf .nc e
  | .ld_sp_nn nn => .loadPair .sp nn
  | .ld_mnn_a nn => .storeReg 3 (.ext nn) .a
  | .inc_sp => .incPair .sp
  | .inc_mhl => .incMem 1 .hl
  | .dec_mhl => .decMem 1 .hl
  | .ld_mhl_n n => .storeImm 2 .hl n
  | .scf => .scf
  | .jr_c_e e => .jumpRelIf .c e
  | .add_hl_sp => .addPair .hl .sp
  | .ld_a_mnn nn => .loadMem 3 .a (.ext nn)
  | .dec_sp => .decPair .sp
  | .inc_a => .incReg .a
  | .dec_a => .decReg .a
  | .ld_a_n n => .loadImm .a n
  | .ccf => .ccf
  | .ld_b_b => .loadReg .b .b
  | .ld_b_c => .loadReg .b .c
  | .ld_b_d => .loadReg .b .d
  | .ld_b_e => .loadReg .b .e
  | .ld_b_h => .loadReg .b .h
  | .ld_b_l => .loadReg .b .l
  | .ld_b_mhl => .loadMem 1 .b .hl
  | .ld_b_a => .loadReg .b .a
  | .ld_c_b => .loadReg .c .b
  | .ld_c_c => .loadReg .c .c
  | .ld_c_d => .loadReg .c .d
  | .ld_c_e => .loadReg .c .e
  | .ld_c_h => .loadReg .c .h
  | .ld_c_l => .loadReg .c .l
  | .ld_c_mhl => .loadMem 1 .c .hl
  | .ld_c_a => .loadReg .c .a
  | .ld_d_b => .loadReg .d .b
  | .ld_d_c => .loadReg .d .c
  | .ld_d_d => .loadReg .d .d
  | .ld_d_e => .loadReg .d .e
  | .ld_d_h => .loadReg .d .h
  | .ld_d_l => .loadReg .d .l
  | .ld_d_mhl => .loadMem 1 .d .hl
  | .ld_d_a => .loadReg .d .a
  | .ld_e_b => .loadReg .e .b
  | .ld_e_c => .loadReg .e .c
  | .ld_e_d => .loadReg .e .d
  | .ld_e_e => .loadReg .e .e
  | .ld_e_h => .loadReg .e .h
  | .ld_e_l => .loadReg .e .l
  | .ld_e_mhl => .loadMem 1 .e .hl
  | .ld_e_a => .loadReg .e .a
  | .ld_h_b => .loadReg .h .b
  | .ld_h_c => .loadReg .h .c
  | .ld_h_d => .loadReg .h .d
  | .ld_h_e => .loadReg .h .e
  | .ld_h_h => .loadReg .h .h
  | .ld_h_l => .loadReg .h .l
  | .ld_h_mhl => .loadMem 1 .h .hl
  | .ld_h_a => .loadReg .h .a
  | .ld_l_b => .loadReg .l .b
  | .ld_l_c => .loadReg .l .c
  | .ld_l_d => .loadReg .l .d
  | .ld_l_e => .loadReg .l .e
  | .ld_l_h => .loadReg .l .h
  | .ld_l_l => .loadReg .l .l
  | .ld_l_mhl => .loadMem 1 .l .hl
  | .ld_l_a => .loadReg .l .a
  | .ld_mhl_b => .storeReg 1 .hl .b
  | .ld_mhl_c => .storeReg 1 .hl .c
  | .ld_mhl_d => .storeReg 1 .hl .d
  | .ld_mhl_e => .storeReg 1 .hl .e
  | .ld_mhl_h => .storeReg 1 .hl .h
  | .ld_mhl_l => .storeReg 1 .hl .l
  | .halt => .halt
  | .ld_mhl_a => .storeReg 1 .hl .a
  | .ld_a_b => .loadReg .a .b
  | .ld_a_c => .loadReg .a .c
  | .ld_a_d => .loadReg .a .d
  | .ld_a_e => .loadReg .a .e
  | .ld_a_h => .loadReg .a .h
  | .ld_a_l => .loadReg .a .l
  | .ld_a_mhl => .loadMem 1 .a .hl
  | .ld_a_a => .loadReg .a .a
  | .add_a_b => .add 1 (.reg .b)
  | .add_a_c => .add 1 (.reg .c)
  | .add_a_d => .add 1 (.reg .d)
  | .add_a_e => .add 1 (.reg .e)
  | .add_a_h => .add 1 (.reg .h)
  | .add_a_l => .add 1 (.reg .l)
  | .add_a_mhl => .add 1 (.mem .hl)
  | .add_a_a => .add 1 (.reg .a)
  | .adc_a_b => .adc 1 (.reg .b)
  | .adc_a_c => .adc 1 (.reg .c)
  | .adc_a_d => .adc 1 (.reg .d)
  | .adc_a_e => .adc 1 (.reg .e)
  | .adc_a_h => .adc 1 (.reg .h)
  | .adc_a_l => .adc 1 (.reg .l)
  | .adc_a_mhl => .adc 1 (.mem .hl)
  | .adc_a_a => .adc 1 (.reg .a)
  | .sub_b => .sub 1 (.reg .b)
  | .sub_c => .sub 1 (.reg .c)
  | .sub_d => .sub 1 (.reg .d)
  | .sub_e => .sub 1 (.reg .e)
  | .sub_h => .sub 1 (.reg .h)
  | .sub_l => .sub 1 (.reg .l)
  | .sub_mhl => .sub 1 (.mem .hl)
  | .sub_a => .sub 1 (.reg .a)
  | .sbc_a_b => .sbc 1 (.reg .b)
  | .sbc_a_c => .sbc 1 (.reg .c)
  | .sbc_a_d => .sbc 1 (.reg .d)
  | .sbc_a_e => .sbc 1 (.reg .e)
  | .sbc_a_h => .sbc 1 (.reg .h)
  | .sbc_a_l => .sbc 1 (.reg .l)
  | .sbc_a_mhl => .sbc 1 (.mem .hl)
  | .sbc_a_a => .sbc 1 (.reg .a)
  | .and_b => .and 1 (.reg .b)
  | .and_c => .and 1 (.reg .c)
  | .and_d => .and 1 (.reg .d)
  | .and_e => .and 1 (.reg .e)
  | .and_h => .and 1 (.reg .h)
  | .and_l => .and 1 (.reg .l)
  | .and_mhl => .and 1 (.mem .hl)
  | .and_a => .and 1 (.reg .a)
  | .xor_b => .xor 1 (.reg .b)
  | .xor_c => .xor 1 (.reg .c)
  | .xor_d => .xor 1 (.reg .d)
  | .xor_e => .xor 1 (.reg .e)
  | .xor_h => .xor 1 (.reg .h)
  | .xor_l => .xor 1 (.reg .l)
  | .xor_mhl => .xor 1 (.mem .hl)
  | .xor_a => .xor 1 (.reg .a)
  | .or_b => .or 1 (.reg .b)
  | .or_c => .or 1 (.reg .c)
  | .or_d => .or 1 (.reg .d)
  | .or_e => .or 1 (.reg .e)
  | .or_h => .or 1 (.reg .h)
  | .or_l => .or 1 (.reg .l)
  | .or_mhl => .or 1 (.mem .hl)
  | .or_a => .or 1 (.reg .a)
  | .cp_b => .cp 1 (.reg .b)
  | .cp_c => .cp 1 (.reg .c)
  | .cp_d => .cp 1 (.reg .d)
  | .cp_e => .cp 1 (.reg .e)
  | .cp_h => .cp 1 (.reg .h)
  | .cp_l => .cp 1 (.reg .l)
  | .cp_mhl => .cp 1 (.mem .hl)
  | .cp_a => .cp 1 (.reg .a)
  | .ret_nz => .retIf .nz
  | .pop_bc => .pop 1 .bc
  | .jp_nz_nn nn => .jumpIf .nz nn
  | .jp_nn nn => .jump nn
  | .call_nz_nn nn => .callIf .nz nn
  | .push_bc => .push 1 .bc
  | .add_a_n n => .add 2 (.imm n)
  | .rst_00h => .call 1 0x00
  | .ret_z => .retIf .z
  | .ret => .ret
  | .jp_z_nn nn => .jumpIf .z nn
  | .call_z_nn nn => .callIf .z nn
  | .call_nn nn => .call 3 nn
  | .adc_a_n n => .adc 2 (.imm n)
  | .rst_08h => .call 1 0x08
  | .ret_nc => .retIf .nc
  | .pop_de => .pop 1 .de
  | .jp_nc_nn nn => .jumpIf .nc nn
  | .out_mn_a n => .outImm n
  | .call_nc_nn nn => .callIf .nc nn
  | .push_de => .push 1 .de
  | .sub_n n => .sub 2 (.imm n)
  | .rst_10h => .call 1 0x10
  | .ret_c => .retIf .c
  | .exx => .exx
  | .jp_c_nn nn => .jumpIf .c nn
  | .in_a_mn n => .inImm n
  | .call_c_nn nn => .callIf .c nn
  | .sbc_a_n n => .sbc 2 (.imm n)
  | .rst_18h => .call 1 0x18
  | .ret_po => .retIf .po
  | .pop_hl => .pop 1 .hl
  | .jp_po_nn nn => .jumpIf .po nn
  | .ex_msp_hl => .exTop 1 .hl
  | .call_po_nn nn => .callIf .po nn
  | .push_hl => .push 1 .hl
  | .and_n n => .and 2 (.imm n)
  | .rst_20h => .call 1 0x20
  | .ret_pe => .retIf .pe
  | .jp_mhl => .jumpPair .hl
  | .jp_pe_nn nn => .jumpIf .pe nn
  | .ex_de_hl => .exDeHl
  | .call_pe_nn nn => .callIf .pe nn
  | .xor_n n => .xor 2 (.imm n)
  | .rst_28h => .call 1 0x28
  | .ret_p => .retIf .p
  | .pop_af => .pop 1 .af
  | .jp_p_nn nn => .jumpIf .p nn
  | .di => .di
  | .call_p_nn nn => .callIf .p nn
  | .push_af => .push 1 .af
  | .or_n n => .or 2 (.imm n)
  | .rst_30h => .call 1 0x30
  | .ret_m => .retIf .m
  | .ld_sp_hl => .loadSp .hl
  | .jp_m_nn nn => .jumpIf .m nn
  | .ei => .ei
  | .call_m_nn nn => .callIf .m nn
  | .cp_n n => .cp 2 (.imm n)
  | .rst_38h => .call 1 0x38
  | .rlc_b => .rotReg .rlc .b
  | .rlc_c => .rotReg .rlc .c
  | .rlc_d => .rotReg .rlc .d
  | .rlc_e => .rotReg .rlc .e
  | .rlc_h => .rotReg .rlc .h
  | .rlc_l => .rotReg .rlc .l
  | .rlc_mhl => .rotMem 2 .rlc .hl none
  | .rlc_a => .rotReg .rlc .a
  | .rrc_b => .rotReg .rrc .b
  | .rrc_c => .rotReg .rrc .c
  | .rrc_d => .rotReg .rrc .d
  | .rrc_e => .rotReg .rrc .e
  | .rrc_h => .rotReg .rrc .h
  | .rrc_l => .rotReg .rrc .l
  | .rrc_mhl => .rotMem 2 .rrc .hl none
  | .rrc_a => .rotReg .rrc .a
  | .rl_b => .rotReg .rl .b
  | .rl_c => .rotReg .rl .c
  | .rl_d => .rotReg .rl .d
  | .rl_e => .rotReg .rl .e
  | .rl_h => .rotReg .rl .h
  | .rl_l => .rotReg .rl .l
  | .rl_mhl => .rotMem 2 .rl .hl none
  | .rl_a => .rotReg .rl .a
  | .rr_b => .rotReg .rr .b
  | .rr_c => .rotReg .rr .c
  | .rr_d => .rotReg .rr .d
  | .rr_e => .rotReg .rr .e
  | .rr_h => .rotReg .rr .h
  | .rr_l => .rotReg .rr .l
  | .rr_mhl => .rotMem 2 .rr .hl none
  | .rr_a => .rotReg .rr .a
  | .sla_b => .rotReg .sla .b
  | .sla_c => .rotReg .sla .c
  | .sla_d => .rotReg .sla .d
  | .sla_e => .rotReg .sla .e
  | .sla_h => .rotReg .sla .h
  | .sla_l => .rotReg .sla .l
  | .sla_mhl => .rotMem 2 .sla .hl none
  | .sla_a => .rotReg .sla .a
  | .sra_b => .rotReg .sra .b
  | .sra_c => .rotReg .sra .c
  | .sra_d => .rotReg .sra .d
  | .sra_e => .rotReg .sra .e
  | .sra_h => .rotReg .sra .h
  | .sra_l => .rotReg .sra .l
  | .sra_mhl => .rotMem 2 .sra .hl none
  | .sra_a => .rotReg .sra .a
  | .sll_b => .rotReg .sll .b
  | .sll_c => .rotReg .sll .c
  | .sll_d => .rotReg .sll .d
  | .sll_e => .rotReg .sll .e
  | .sll_h => .rotReg .sll .h
  | .sll_l => .rotReg .sll .l
  | .sll_mhl => .rotMem 2 .sll .hl none
  | .sll_a => .rotReg .sll .a
  | .srl_b => .rotReg .srl .b
  | .srl_c => .rotReg .srl .c
  | .srl_d => .rotReg .srl .d
  | .srl_e => .rotReg .srl .e
  | .srl_h => .rotReg .srl .h
  | .srl_l => .rotReg .srl .l
  | .srl_mhl => .rotMem 2 .srl .hl none
  | .srl_a => .rotReg .srl .a
  | .bit_0_b => .bitReg 0 .b
  | .bit_0_c => .bitReg 0 .c
  | .bit_0_d => .bitReg 0 .d
  | .bit_0_e => .bitReg 0 .e
  | .bit_0_h => .bitReg 0 .h
  | .bit_0_l => .bitReg 0 .l
  | .bit_0_mhl => .bitHl 0
  | .bit_0_a => .bitReg 0 .a
  | .bit_1_b => .bitReg 1 .b
  | .bit_1_c => .bitReg 1 .c
  | .bit_1_d => .bitReg 1 .d
  | .bit_1_e => .bitReg 1 .e
  | .bit_1_h => .bitReg 1 .h
  | .bit_1_l => .bitReg 1 .l
  | .bit_1_mhl => .bitHl 1
  | .bit_1_a => .bitReg 1 .a
  | .bit_2_b => .bitReg 2 .b
  | .bit_2_c => .bitReg 2 .c
  | .bit_2_d => .bitReg 2 .d
  | .bit_2_e => .bitReg 2 .e
  | .bit_2_h => .bitReg 2 .h
  | .bit_2_l => .bitReg 2 .l
  | .bit_2_mhl => .bitHl 2
  | .bit_2_a => .bitReg 2 .a
  | .bit_3_b => .bitReg 3 .b
  | .bit_3_c => .bitReg 3 .c
  | .bit_3_d => .bitReg 3 .d
  | .bit_3_e => .bitReg 3 .e
  | .bit_3_h => .bitReg 3 .h
  | .bit_3_l => .bitReg 3 .l
  | .bit_3_mhl => .bitHl 3
  | .bit_3_a => .bitReg 3 .a
  | .bit_4_b => .bitReg 4 .b
  | .bit_4_c => .bitReg 4 .c
  | .bit_4_d => .bitReg 4 .d
  | .bit_4_e => .bitReg 4 .e
  | .bit_4_h => .bitReg 4 .h
  | .bit_4_l => .bitReg 4 .l
  | .bit_4_mhl => .bitHl 4
  | .bit_4_a => .bitReg 4 .a
  | .bit_5_b => .bitReg 5 .b
  | .bit_5_c => .bitReg 5 .c
  | .bit_5_d => .bitReg 5 .d
  | .bit_5_e => .bitReg 5 .e
  | .bit_5_h => .bitReg 5 .h
  | .bit_5_l => .bitReg 5 .l
  | .bit_5_mhl => .bitHl 5
  | .bit_5_a => .bitReg 5 .a
  | .bit_6_b => .bitReg 6 .b
  | .bit_6_c => .bitReg 6 .c
  | .bit_6_d => .bitReg 6 .d
  | .bit_6_e => .bitReg 6 .e
  | .bit_6_h => .bitReg 6 .h
  | .bit_6_l => .bitReg 6 .l
  | .bit_6_mhl => .bitHl 6
  | .bit_6_a => .bitReg 6 .a
  | .bit_7_b => .bitReg 7 .b
  | .bit_7_c => .bitReg 7 .c
  | .bit_7_d => .bitReg 7 .d
  | .bit_7_e => .bitReg 7 .e
  | .bit_7_h => .bitReg 7 .h
  | .bit_7_l => .bitReg 7 .l
  | .bit_7_mhl => .bitHl 7
  | .bit_7_a => .bitReg 7 .a
  | .res_0_b => .resReg 0 .b
  | .res_0_c => .resReg 0 .c
  | .res_0_d => .resReg 0 .d
  | .res_0_e => .resReg 0 .e
  | .res_0_h => .resReg 0 .h
  | .res_0_l => .resReg 0 .l
  | .res_0_mhl => .resMem 2 0 .hl none
  | .res_0_a => .resReg 0 .a
  | .res_1_b => .resReg 1 .b
  | .res_1_c => .resReg 1 .c
  | .res_1_d => .resReg 1 .d
  | .res_1_e => .resReg 1 .e
  | .res_1_h => .resReg 1 .h
  | .res_1_l => .resReg 1 .l
  | .res_1_mhl => .resMem 2 1 .hl none
  | .res_1_a => .resReg 1 .a
  | .res_2_b => .resReg 2 .b
  | .res_2_c => .resReg 2 .c
  | .res_2_d => .resReg 2 .d
  | .res_2_e => .resReg 2 .e
  | .res_2_h => .resReg 2 .h
  | .res_2_l => .resReg 2 .l
  | .res_2_mhl => .resMem 2 2 .hl none
  | .res_2_a => .resReg 2 .a
  | .res_3_b => .resReg 3 .b
  | .res_3_c => .resReg 3 .c
  | .res_3_d => .resReg 3 .d
  | .res_3_e => .resReg 3 .e
  | .res_3_h => .resReg 3 .h
  | .res_3_l => .resReg 3 .l
  | .res_3_mhl => .resMem 2 3 .hl none
  | .res_3_a => .resReg 3 .a
  | .res_4_b => .resReg 4 .b
  | .res_4_c => .resReg 4 .c
  | .res_4_d => .resReg 4 .d
  | .res_4_e => .resReg 4 .e
  | .res_4_h => .resReg 4 .h
  | .res_4_l => .resReg 4 .l
  | .res_4_mhl => .resMem 2 4 .hl none
  | .res_4_a => .resReg 4 .a
  | .res_5_b => .resReg 5 .b
  | .res_5_c => .resReg 5 .c
  | .res_5_d => .resReg 5 .d
  | .res_5_e => .resReg 5 .e
  | .res_5_h => .resReg 5 .h
  | .res_5_l => .resReg 5 .l
  | .res_5_mhl => .resMem 2 5 .hl none
  | .res_5_a => .resReg 5 .a
  | .res_6_b => .resReg 6 .b
  | .res_6_c => .resReg 6 .c
  | .res_6_d => .resReg 6 .d
  | .res_6_e => .resReg 6 .e
  | .res_6_h => .resReg 6 .h
  | .res_6_l => .resReg 6 .l
  | .res_6_mhl => .resMem 2 6 .hl none
  | .res_6_a => .resReg 6 .a
  | .res_7_b => .resReg 7 .b
  | .res_7_c => .resReg 7 .c
  | .res_7_d => .resReg 7 .d
  | .res_7_e => .resReg 7 .e
  | .res_7_h => .resReg 7 .h
  | .res_7_l => .resReg 7 .l
  | .res_7_mhl => .resMem 2 7 .hl none
  | .res_7_a => .resReg 7 .a
  | .set_0_b => .setReg 0 .b
  | .set_0_c => .setReg 0 .c
  | .set_0_d => .setReg 0 .d
  | .set_0_e => .setReg 0 .e
  | .set_0_h => .setReg 0 .h
  | .set_0_l => .setReg 0 .l
  | .set_0_mhl => .setMem 2 0 .hl none
  | .set_0_a => .setReg 0 .a
  | .set_1_b => .setReg 1 .b
  | .set_1_c => .setReg 1 .c
  | .set_1_d => .setReg 1 .d
  | .set_1_e => .setReg 1 .e
  | .set_1_h => .setReg 1 .h
  | .set_1_l => .setReg 1 .l
  | .set_1_mhl => .setMem 2 1 .hl none
  | .set_1_a => .setReg 1 .a
  | .set_2_b => .setReg 2 .b
  | .set_2_c => .setReg 2 .c
  | .set_2_d => .setReg 2 .d
  | .set_2_e => .setReg 2 .e
  | .set_2_h => .setReg 2 .h
  | .set_2_l => .setReg 2 .l
  | .set_2_mhl => .setMem 2 2 .hl none
  | .set_2_a => .setReg 2 .a
  | .set_3_b => .setReg 3 .b
  | .set_3_c => .setReg 3 .c
  | .set_3_d => .setReg 3 .d
  | .set_3_e => .setReg 3 .e
  | .set_3_h => .setReg 3 .h
  | .set_3_l => .setReg 3 .l
  | .set_3_mhl => .setMem 2 3 .hl none
  | .set_3_a => .setReg 3 .a
  | .set_4_b => .setReg 4 .b
  | .set_4_c => .setReg 4 .c
  | .set_4_d => .setReg 4 .d
  | .set_4_e => .setReg 4 .e
  | .set_4_h => .setReg 4 .h
  | .set_4_l => .setReg 4 .l
  | .set_4_mhl => .setMem 2 4 .hl none
  | .set_4_a => .setReg 4 .a
  | .set_5_b => .setReg 5 .b
  | .set_5_c => .setReg 5 .c
  | .set_5_d => .setReg 5 .d
  | .set_5_e => .setReg 5 .e
  | .set_5_h => .setReg 5 .h
  | .set_5_l => .setReg 5 .l
  | .set_5_mhl => .setMem 2 5 .hl none
  | .set_5_a => .setReg 5 .a
  | .set_6_b => .setReg 6 .b
  | .set_6_c => .setReg 6 .c
  | .set_6_d => .setReg 6 .d
  | .set_6_e => .setReg 6 .e
  | .set_6_h => .setReg 6 .h
  | .set_6_l => .setReg 6 .l
  | .set_6_mhl => .setMem 2 6 .hl none
  | .set_6_a => .setReg 6 .a
  | .set_7_b => .setReg 7 .b
  | .set_7_c => .setReg 7 .c
  | .set_7_d => .setReg 7 .d
  | .set_7_e => .setReg 7 .e
  | .set_7_h => .setReg 7 .h
  | .set_7_l => .setReg 7 .l
  | .set_7_mhl => .setMem 2 7 .hl none
  | .set_7_a => .setReg 7 .a
  | .in_b_mc => .inPort (some .b)
  | .out_mc_b => .outReg .b
  | .sbc_hl_bc => .sbcHl .bc
  | .ld_mnn_bc nn => .storePair 4 nn .bc
  | .neg _ => .neg
  | .retn _ => .retInt
  | .im_0 _ => .im 0
  | .ld_i_a => .loadIA
  | .in_c_mc => .inPort (some .c)
  | .out_mc_c => .outReg .c
  | .adc_hl_bc => .adcHl .bc
  | .ld_bc_mnn nn => .loadPairMem 4 .bc nn
  | .reti => .retInt
  | .im_0_1 _ => .im 0
  | .ld_r_a => .loadRA
  | .in_d_mc => .inPort (some .d)
  | .out_mc_d => .outReg .d
  | .sbc_hl_de => .sbcHl .de
  | .ld_mnn_de nn => .storePair 4 nn .de
  | .im_1 _ => .im 1
  | .ld_a_i => .loadAI
  | .in_e_mc => .inPort (some .e)
  | .out_mc_e => .outReg .e
  | .adc_hl_de => .adcHl .de
  | .ld_de_mnn nn => .loadPairMem 4 .de nn
  | .im_2 _ => .im 2
  | .ld_a_r => .loadAR
  | .in_h_mc => .inPort (some .h)
  | .out_mc_h => .outReg .h
  | .sbc_hl_hl => .sbcHl .hl
  | .rrd => .rrd
  | .in_l_mc => .inPort (some .l)
  | .out_mc_l => .outReg .l
  | .adc_hl_hl => .adcHl .hl
  | .rld => .rld
  | .in_mc => .inPort none
  | .out_mc_0 => .outZero
  | .sbc_hl_sp => .sbcHl .sp
  | .ld_mnn_sp nn => .storePair 4 nn .sp
  | .in_a_mc => .inPort (some .a)
  | .out_mc_a => .outReg .a
  | .adc_hl_sp => .adcHl .sp
  | .ld_sp_mnn nn => .loadPairMem 4 .sp nn
  | .ldi => .ldOnce .up
  | .cpi => .cpOnce .up
  | .ini => .inOnce .up
  | .outi => .outOnce .up
  | .ldd => .ldOnce .down
  | .cpd => .cpOnce .down
  | .ind => .inOnce .down
  | .outd => .outOnce .down
  | .ldir => .ldRepeat .up
  | .cpir => .cpRepeat .up
  | .inir => .inRepeat .up
  | .otir => .outRepeat .up
  | .lddr => .ldRepeat .down
  | .cpdr => .cpRepeat .down
  | .indr => .inRepeat .down
  | .otdr => .outRepeat .down
  | .add_ix_bc => .addPair .ix .bc
  | .add_ix_de => .addPair .ix .de
  | .ld_ix_nn nn => .loadPair .ix nn
  | .ld_mnn_ix nn => .storePair 4 nn .ix
  | .inc_ix => .incPair .ix
  | .inc_ixh => .incReg .ixh
  | .dec_ixh => .decReg .ixh
  | .ld_ixh_n n => .loadImm .ixh n
  | .add_ix_ix => .addPair .ix .ix
  | .ld_ix_mnn nn => .loadPairMem 4 .ix nn
  | .dec_ix => .decPair .ix
  | .inc_ixl => .incReg .ixl
  | .dec_ixl => .decReg .ixl
  | .ld_ixl_n n => .loadImm .ixl n
  | .inc_mixd d => .incMem 3 (.idx .ix d)
  | .dec_mixd d => .decMem 3 (.idx .ix d)
  | .ld_mixd_n d n => .storeImm 4 (.idx .ix d) n
  | .add_ix_sp => .addPair .ix .sp
  | .ld_b_ixh => .loadReg .b .ixh
  | .ld_b_ixl => .loadReg .b .ixl
  | .ld_b_mixd d => .loadMem 3 .b (.idx .ix d)
  | .ld_c_ixh => .loadReg .c .ixh
  | .ld_c_ixl => .loadReg .c .ixl
  | .ld_c_mixd d => .loadMem 3 .c (.idx .ix d)
  | .ld_d_ixh => .loadReg .d .ixh
  | .ld_d_ixl => .loadReg .d .ixl
  | .ld_d_mixd d => .loadMem 3 .d (.idx .ix d)
  | .ld_e_ixh => .loadReg .e .ixh
  | .ld_e_ixl => .loadReg .e .ixl
  | .ld_e_mixd d => .loadMem 3 .e (.idx .ix d)
  | .ld_ixh_b => .loadReg .ixh .b
  | .ld_ixh_c => .loadReg .ixh .c
  | .ld_ixh_d => .loadReg .ixh .d
  | .ld_ixh_e => .loadReg .ixh .e
  | .ld_ixh_ixh => .loadReg .ixh .ixh
  | .ld_ixh_ixl => .loadReg .ixh .ixl
  | .ld_h_mixd d => .loadMem 3 .h (.idx .ix d)
  | .ld_ixh_a => .loadReg .ixh .a
  | .ld_ixl_b => .loadReg .ixl .b
  | .ld_ixl_c => .loadReg .ixl .c
  | .ld_ixl_d => .loadReg .ixl .d
  | .ld_ixl_e => .loadReg .ixl .e
  | .ld_ixl_ixh => .loadReg .ixl .ixh
  | .ld_ixl_ixl => .loadReg .ixl .ixl
  | .ld_l_mixd d => .loadMem 3 .l (.idx .ix d)
  | .ld_ixl_a => .loadReg .ixl .a
  | .ld_mixd_b d => .storeReg 3 (.idx .ix d) .b
  | .ld_mixd_c d => .storeReg 3 (.idx .ix d) .c
  | .ld_mixd_d d => .storeReg 3 (.idx .ix d) .d
  | .ld_mixd_e d => .storeReg 3 (.idx .ix d) .e
  | .ld_mixd_h d => .storeReg 3 (.idx .ix d) .h
  | .ld_mixd_l d => .storeReg 3 (.idx .ix d) .l
  | .ld_mixd_a d => .storeReg 3 (.idx .ix d) .a
  | .ld_a_ixh => .loadReg .a .ixh
  | .ld_a_ixl => .loadReg .a .ixl
  | .ld_a_mixd d => .loadMem 3 .a (.idx .ix d)
  | .add_a_ixh => .add 2 (.reg .ixh)
  | .add_a_ixl => .add 2 (.reg .ixl)
  | .add_a_mixd d => .add 3 (.mem (.idx .ix d))
  | .adc_a_ixh => .adc 2 (.reg .ixh)
  | .adc_a_ixl => .adc 2 (.reg .ixl)
  | .adc_a_mixd d => .adc 3 (.mem (.idx .ix d))
  | .sub_ixh => .sub 2 (.reg .ixh)
  | .sub_ixl => .sub 2 (.reg .ixl)
  | .sub_mixd d => .sub 3 (.mem (.idx .ix d))
  | .sbc_a_ixh => .sbc 2 (.reg .ixh)
  | .sbc_a_ixl => .sbc 2 (.reg .ixl)
  | .sbc_a_mixd d => .sbc 3 (.mem (.idx .ix d))
  | .and_ixh => .and 2 (.reg .ixh)
  | .and_ixl => .and 2 (.reg .ixl)
  | .and_mixd d => .and 3 (.mem (.idx .ix d))
  | .xor_ixh => .xor 2 (.reg .ixh)
  | .xor_ixl => .xor 2 (.reg .ixl)
  | .xor_mixd d => .xor 3 (.mem (.idx .ix d))
  | .or_ixh => .or 2 (.reg .ixh)
  | .or_ixl => .or 2 (.reg .ixl)
  | .or_mixd d => .or 3 (.mem (.idx .ix d))
  | .cp_ixh => .cp 2 (.reg .ixh)
  | .cp_ixl => .cp 2 (.reg .ixl)
  | .cp_mixd d => .cp 3 (.mem (.idx .ix d))
  | .pop_ix => .pop 2 .ix
  | .ex_msp_ix => .exTop 2 .ix
  | .push_ix => .push 2 .ix
  | .jp_mix => .jumpPair .ix
  | .ld_sp_ix => .loadSp .ix
  | .rlc_mixd_b d => .rotMem 4 .rlc (.idx .ix d) (some .b)
  | .rlc_mixd_c d => .rotMem 4 .rlc (.idx .ix d) (some .c)
  | .rlc_mixd_d d => .rotMem 4 .rlc (.idx .ix d) (some .d)
  | .rlc_mixd_e d => .rotMem 4 .rlc (.idx .ix d) (some .e)
  | .rlc_mixd_h d => .rotMem 4 .rlc (.idx .ix d) (some .h)
  | .rlc_mixd_l d => .rotMem 4 .rlc (.idx .ix d) (some .l)
  | .rlc_mixd d => .rotMem 4 .rlc (.idx .ix d) none
  | .rlc_mixd_a d => .rotMem 4 .rlc (.idx .ix d) (some .a)
  | .rrc_mixd_b d => .rotMem 4 .rrc (.idx .ix d) (some .b)
  | .rrc_mixd_c d => .rotMem 4 .rrc (.idx .ix d) (some .c)
  | .rrc_mixd_d d => .rotMem 4 .rrc (.idx .ix d) (some .d)
  | .rrc_mixd_e d => .rotMem 4 .rrc (.idx .ix d) (some .e)
  | .rrc_mixd_h d => .rotMem 4 .rrc (.idx .ix d) (some .h)
  | .rrc_mixd_l d => .rotMem 4 .rrc (.idx .ix d) (some .l)
  | .rrc_mixd d => .rotMem 4 .rrc (.idx .ix d) none
  | .rrc_mixd_a d => .rotMem 4 .rrc (.idx .ix d) (some .a)
  | .rl_mixd_b d => .rotMem 4 .rl (.idx .ix d) (some .b)
  | .rl_mixd_c d => .rotMem 4 .rl (.idx .ix d) (some .c)
  | .rl_mixd_d d => .rotMem 4 .rl (.idx .ix d) (some .d)
  | .rl_mixd_e d => .rotMem 4 .rl (.idx .ix d) (some .e)
  | .rl_mixd_h d => .rotMem 4 .rl (.idx .ix d) (some .h)
  | .rl_mixd_l d => .rotMem 4 .rl (.idx .ix d) (some .l)
  | .rl_mixd d => .rotMem 4 .rl (.idx .ix d) none
  | .rl_mixd_a d => .rotMem 4 .rl (.idx .ix d) (some .a)
  | .rr_mixd_b d => .rotMem 4 .rr (.idx .ix d) (some .b)
  | .rr_mixd_c d => .rotMem 4 .rr (.idx .ix d) (some .c)
  | .rr_mixd_d d => .rotMem 4 .rr (.idx .ix d) (some .d)
  | .rr_mixd_e d => .rotMem 4 .rr (.idx .ix d) (some .e)
  | .rr_mixd_h d => .rotMem 4 .rr (.idx .ix d) (some .h)
  | .rr_mixd_l d => .rotMem 4 .rr (.idx .ix d) (some .l)
  | .rr_mixd d => .rotMem 4 .rr (.idx .ix d) none
  | .rr_mixd_a d => .rotMem 4 .rr (.idx .ix d) (some .a)
  | .sla_mixd_b d => .rotMem 4 .sla (.idx .ix d) (some .b)
  | .sla_mixd_c d => .rotMem 4 .sla (.idx .ix d) (some .c)
  | .sla_mixd_d d => .rotMem 4 .sla (.idx .ix d) (some .d)
  | .sla_mixd_e d => .rotMem 4 .sla (.idx .ix d) (some .e)
  | .sla_mixd_h d => .rotMem 4 .sla (.idx .ix d) (some .h)
  | .sla_mixd_l d => .rotMem 4 .sla (.idx .ix d) (some .l)
  | .sla_mixd d => .rotMem 4 .sla (.idx .ix d) none
  | .sla_mixd_a d => .rotMem 4 .sla (.idx .ix d) (some .a)
  | .sra_mixd_b d => .rotMem 4 .sra (.idx .ix d) (some .b)
  | .sra_mixd_c d => .rotMem 4 .sra (.idx .ix d) (some .c)
  | .sra_mixd_d d => .rotMem 4 .sra (.idx .ix d) (some .d)
  | .sra_mixd_e d => .rotMem 4 .sra (.idx .ix d) (some .e)
  | .sra_mixd_h d => .rotMem 4 .sra (.idx .ix d) (some .h)
  | .sra_mixd_l d => .rotMem 4 .sra (.idx .ix d) (some .l)
  | .sra_mixd d => .rotMem 4 .sra (.idx .ix d) none
  | .sra_mixd_a d => .rotMem 4 .sra (.idx .ix d) (some .a)
  | .sll_mixd_b d => .rotMem 4 .sll (.idx .ix d) (some .b)
  | .sll_mixd_c d => .rotMem 4 .sll (.idx .ix d) (some .c)
  | .sll_mixd_d d => .rotMem 4 .sll (.idx .ix d) (some .d)
  | .sll_mixd_e d => .rotMem 4 .sll (.idx .ix d) (some .e)
  | .sll_mixd_h d => .rotMem 4 .sll (.idx .ix d) (some .h)
  | .sll_mixd_l d => .rotMem 4 .sll (.idx .ix d) (some .l)
  | .sll_mixd d => .rotMem 4 .sll (.idx .ix d) none
  | .sll_mixd_a d => .rotMem 4 .sll (.idx .ix d) (some .a)
  | .srl_mixd_b d => .rotMem 4 .srl (.idx .ix d) (some .b)
  | .srl_mixd_c d => .rotMem 4 .srl (.idx .ix d) (some .c)
  | .srl_mixd_d d => .rotMem 4 .srl (.idx .ix d) (some .d)
  | .srl_mixd_e d => .rotMem 4 .srl (.idx .ix d) (some .e)
  | .srl_mixd_h d => .rotMem 4 .srl (.idx .ix d) (some .h)
  | .srl_mixd_l d => .rotMem 4 .srl (.idx .ix d) (some .l)
  | .srl_mixd d => .rotMem 4 .srl (.idx .ix d) none
  | .srl_mixd_a d => .rotMem 4 .srl (.idx .ix d) (some .a)
  | .bit_0_mixd d _ => .bitIdx 0 .ix d
  | .bit_1_mixd d _ => .bitIdx 1 .ix d
  | .bit_2_mixd d _ => .bitIdx 2 .ix d
  | .bit_3_mixd d _ => .bitIdx 3 .ix d
  | .bit_4_mixd d _ => .bitIdx 4 .ix d
  | .bit_5_mixd d _ => .bitIdx 5 .ix d
  | .bit_6_mixd d _ => .bitIdx 6 .ix d
  | .bit_7_mixd d _ => .bitIdx 7 .ix d
  | .res_0_mixd_b d => .resMem 4 0 (.idx .ix d) (some .b)
  | .res_0_mixd_c d => .resMem 4 0 (.idx .ix d) (some .c)
  | .res_0_mixd_d d => .resMem 4 0 (.idx .ix d) (some .d)
  | .res_0_mixd_e d => .resMem 4 0 (.idx .ix d) (some .e)
  | .res_0_mixd_h d => .resMem 4 0 (.idx .ix d) (some .h)
  | .res_0_mixd_l d => .resMem 4 0 (.idx .ix d) (some .l)
  | .res_0_mixd d => .resMem 4 0 (.idx .ix d) none
  | .res_0_mixd_a d => .resMem 4 0 (.idx .ix d) (some .a)
  | .res_1_mixd_b d => .resMem 4 1 (.idx .ix d) (some .b)
  | .res_1_mixd_c d => .resMem 4 1 (.idx .ix d) (some .c)
  | .res_1_mixd_d d => .resMem 4 1 (.idx .ix d) (some .d)
  | .res_1_mixd_e d => .resMem 4 1 (.idx .ix d) (some .e)
  | .res_1_mixd_h d => .resMem 4 1 (.idx .ix d) (some .h)
  | .res_1_mixd_l d => .resMem 4 1 (.idx .ix d) (some .l)
  | .res_1_mixd d => .resMem 4 1 (.idx .ix d) none
  | .res_1_mixd_a d => .resMem 4 1 (.idx .ix d) (some .a)
  | .res_2_mixd_b d => .resMem 4 2 (.idx .ix d) (some .b)
  | .res_2_mixd_c d => .resMem 4 2 (.idx .ix d) (some .c)
  | .res_2_mixd_d d => .resMem 4 2 (.idx .ix d) (some .d)
  | .res_2_mixd_e d => .resMem 4 2 (.idx .ix d) (some .e)
  | .res_2_mixd_h d => .resMem 4 2 (.idx .ix d) (some .h)
  | .res_2_mixd_l d => .resMem 4 2 (.idx .ix d) (some .l)
  | .res_2_mixd d => .resMem 4 2 (.idx .ix d) none
  | .res_2_mixd_a d => .resMem 4 2 (.idx .ix d) (some .a)
  | .res_3_mixd_b d => .resMem 4 3 (.idx .ix d) (some .b)
  | .res_3_mixd_c d => .resMem 4 3 (.idx .ix d) (some .c)
  | .res_3_mixd_d d => .resMem 4 3 (.idx .ix d) (some .d)
  | .res_3_mixd_e d => .resMem 4 3 (.idx .ix d) (some .e)
  | .res_3_mixd_h d => .resMem 4 3 (.idx .ix d) (some .h)
  | .res_3_mixd_l d => .resMem 4 3 (.idx .ix d) (some .l)
  | .res_3_mixd d => .resMem 4 3 (.idx .ix d) none
  | .res_3_mixd_a d => .resMem 4 3 (.idx .ix d) (some .a)
  | .res_4_mixd_b d => .resMem 4 4 (.idx .ix d) (some .b)
  | .res_4_mixd_c d => .resMem 4 4 (.idx .ix d) (some .c)
  | .res_4_mixd_d d => .resMem 4 4 (.idx .ix d) (some .d)
  | .res_4_mixd_e d => .resMem 4 4 (.idx .ix d) (some .e)
  | .res_4_mixd_h d => .resMem 4 4 (.idx .ix d) (some .h)
  | .res_4_mixd_l d => .resMem 4 4 (.idx .ix d) (some .l)
  | .res_4_mixd d => .resMem 4 4 (.idx .ix d) none
  | .res_4_mixd_a d => .resMem 4 4 (.idx .ix d) (some .a)
  | .res_5_mixd_b d => .resMem 4 5 (.idx .ix d) (some .b)
  | .res_5_mixd_c d => .resMem 4 5 (.idx .ix d) (some .c)
  | .res_5_mixd_d d => .resMem 4 5 (.idx .ix d) (some .d)
  | .res_5_mixd_e d => .resMem 4 5 (.idx .ix d) (some .e)
  | .res_5_mixd_h d => .resMem 4 5 (.idx .ix d) (some .h)
  | .res_5_mixd_l d => .resMem 4 5 (.idx .ix d) (some .l)
  | .res_5_mixd d => .resMem 4 5 (.idx .ix d) none
  | .res_5_mixd_a d => .resMem 4 5 (.idx .ix d) (some .a)
  | .res_6_mixd_b d => .resMem 4 6 (.idx .ix d) (some .b)
  | .res_6_mixd_c d => .resMem 4 6 (.idx .ix d) (some .c)
  | .res_6_mixd_d d => .resMem 4 6 (.idx .ix d) (some .d)
  | .res_6_mixd_e d => .resMem 4 6 (.idx .ix d) (some .e)
  | .res_6_mixd_h d => .resMem 4 6 (.idx .ix d) (some .h)
  | .res_6_mixd_l d => .resMem 4 6 (.idx .ix d) (some .l)
  | .res_6_mixd d => .resMem 4 6 (.idx .ix d) none
  | .res_6_mixd_a d => .resMem 4 6 (.idx .ix d) (some .a)
  | .res_7_mixd_b d => .resMem 4 7 (.idx .ix d) (some .b)
  | .res_7_mixd_c d => .resMem 4 7 (.idx .ix d) (some .c)
  | .res_7_mixd_d d => .resMem 4 7 (.idx .ix d) (some .d)
  | .res_7_mixd_e d => .resMem 4 7 (.idx .ix d) (some .e)
  | .res_7_mixd_h d => .resMem 4 7 (.idx .ix d) (some .h)
  | .res_7_mixd_l d => .resMem 4 7 (.idx .ix d) (some .l)
  | .res_7_mixd d => .resMem 4 7 (.idx .ix d) none
  | .res_7_mixd_a d => .resMem 4 7 (.idx .ix d) (some .a)
  | .set_0_mixd_b d => .setMem 4 0 (.idx .ix d) (some .b)
  | .set_0_mixd_c d => .setMem 4 0 (.idx .ix d) (some .c)
  | .set_0_mixd_d d => .setMem 4 0 (.idx .ix d) (some .d)
  | .set_0_mixd_e d => .setMem 4 0 (.idx .ix d) (some .e)
  | .set_0_mixd_h d => .setMem 4 0 (.idx .ix d) (some .h)
  | .set_0_mixd_l d => .setMem 4 0 (.idx .ix d) (some .l)
  | .set_0_mixd d => .setMem 4 0 (.idx .ix d) none
  | .set_0_mixd_a d => .setMem 4 0 (.idx .ix d) (some .a)
  | .set_1_mixd_b d => .setMem 4 1 (.idx .ix d) (some .b)
  | .set_1_mixd_c d => .setMem 4 1 (.idx .ix d) (some .c)
  | .set_1_mixd_d d => .setMem 4 1 (.idx .ix d) (some .d)
  | .set_1_mixd_e d => .setMem 4 1 (.idx .ix d) (some .e)
  | .set_1_mixd_h d => .setMem 4 1 (.idx .ix d) (some .h)
  | .set_1_mixd_l d => .setMem 4 1 (.idx .ix d) (some .l)
  | .set_1_mixd d => .setMem 4 1 (.idx .ix d) none
  | .set_1_mixd_a d => .setMem 4 1 (.idx .ix d) (some .a)
  | .set_2_mixd_b d => .setMem 4 2 (.idx .ix d) (some .b)
  | .set_2_mixd_c d => .setMem 4 2 (.idx .ix d) (some .c)
  | .set_2_mixd_d d => .setMem 4 2 (.idx .ix d) (some .d)
  | .set_2_mixd_e d => .setMem 4 2 (.idx .ix d) (some .e)
  | .set_2_mixd_h d => .setMem 4 2 (.idx .ix d) (some .h)
  | .set_2_mixd_l d => .setMem 4 2 (.idx .ix d) (some .l)
  | .set_2_mixd d => .setMem 4 2 (.idx .ix d) none
  | .set_2_mixd_a d => .setMem 4 2 (.idx .ix d) (some .a)
  | .set_3_mixd_b d => .setMem 4 3 (.idx .ix d) (some .b)
  | .set_3_mixd_c d => .setMem 4 3 (.idx .ix d) (some .c)
  | .set_3_mixd_d d => .setMem 4 3 (.idx .ix d) (some .d)
  | .set_3_mixd_e d => .setMem 4 3 (.idx .ix d) (some .e)
  | .set_3_mixd_h d => .setMem 4 3 (.idx .ix d) (some .h)
  | .set_3_mixd_l d => .setMem 4 3 (.idx .ix d) (some .l)
  | .set_3_mixd d => .setMem 4 3 (.idx .ix d) none
  | .set_3_mixd_a d => .setMem 4 3 (.idx .ix d) (some .a)
  | .set_4_mixd_b d => .setMem 4 4 (.idx .ix d) (some .b)
  | .set_4_mixd_c d => .setMem 4 4 (.idx .ix d) (some .c)
  | .set_4_mixd_d d => .setMem 4 4 (.idx .ix d) (some .d)
  | .set_4_mixd_e d => .setMem 4 4 (.idx .ix d) (some .e)
  | .set_4_mixd_h d => .setMem 4 4 (.idx .ix d) (some .h)
  | .set_4_mixd_l d => .setMem 4 4 (.idx .ix d) (some .l)
  | .set_4_mixd d => .setMem 4 4 (.idx .ix d) none
  | .set_4_mixd_a d => .setMem 4 4 (.idx .ix d) (some .a)
  | .set_5_mixd_b d => .setMem 4 5 (.idx .ix d) (some .b)
  | .set_5_mixd_c d => .setMem 4 5 (.idx .ix d) (some .c)
  | .set_5_mixd_d d => .setMem 4 5 (.idx .ix d) (some .d)
  | .set_5_mixd_e d => .setMem 4 5 (.idx .ix d) (some .e)
  | .set_5_mixd_h d => .setMem 4 5 (.idx .ix d) (some .h)
  | .set_5_mixd_l d => .setMem 4 5 (.idx .ix d) (some .l)
  | .set_5_mixd d => .setMem 4 5 (.idx .ix d) none
  | .set_5_mixd_a d => .setMem 4 5 (.idx .ix d) (some .a)
  | .set_6_mixd_b d => .setMem 4 6 (.idx .ix d) (some .b)
  | .set_6_mixd_c d => .setMem 4 6 (.idx .ix d) (some .c)
  | .set_6_mixd_d d => .setMem 4 6 (.idx .ix d) (some .d)
  | .set_6_mixd_e d => .setMem 4 6 (.idx .ix d) (some .e)
  | .set_6_mixd_h d => .setMem 4 6 (.idx .ix d) (some .h)
  | .set_6_mixd_l d => .setMem 4 6 (.idx .ix d) (some .l)
  | .set_6_mixd d => .setMem 4 6 (.idx .ix d) none
  | .set_6_mixd_a d => .setMem 4 6 (.idx .ix d) (some .a)
  | .set_7_mixd_b d => .setMem 4 7 (.idx .ix d) (some .b)
  | .set_7_mixd_c d => .setMem 4 7 (.idx .ix d) (some .c)
  | .set_7_mixd_d d => .setMem 4 7 (.idx .ix d) (some .d)
  | .set_7_mixd_e d => .setMem 4 7 (.idx .ix d) (some .e)
  | .set_7_mixd_h d => .setMem 4 7 (.idx .ix d) (some .h)
  | .set_7_mixd_l d => .setMem 4 7 (.idx .ix d) (some .l)
  | .set_7_mixd d => .setMem 4 7 (.idx .ix d) none
  | .set_7_mixd_a d => .setMem 4 7 (.idx .ix d) (some .a)
  | .add_iy_bc => .addPair .iy .bc
  | .add_iy_de => .addPair .iy .de
  | .ld_iy_nn nn => .loadPair .iy nn
  | .ld_mnn_iy nn => .storePair 4 nn .iy
  | .inc_iy => .incPair .iy
  | .inc_iyh => .incReg .iyh
  | .dec_iyh => .decReg .iyh
  | .ld_iyh_n n => .loadImm .iyh n
  | .add_iy_iy => .addPair .iy .iy
  | .ld_iy_mnn nn => .loadPairMem 4 .iy nn
  | .dec_iy => .decPair .iy
  | .inc_iyl => .incReg .iyl
  | .dec_iyl => .decReg .iyl
  | .ld_iyl_n n => .loadImm .iyl n
  | .inc_miyd d => .incMem 3 (.idx .iy d)
  | .dec_miyd d => .decMem 3 (.idx .iy d)
  | .ld_miyd_n d n => .storeImm 4 (.idx .iy d) n
  | .add_iy_sp => .addPair .iy .sp
  | .ld_b_iyh => .loadReg .b .iyh
  | .ld_b_iyl => .loadReg .b .iyl
  | .ld_b_miyd d => .loadMem 3 .b (.idx .iy d)
  | .ld_c_iyh => .loadReg .c .iyh
  | .ld_c_iyl => .loadReg .c .iyl
  | .ld_c_miyd d => .loadMem 3 .c (.idx .iy d)
  | .ld_d_iyh => .loadReg .d .iyh
  | .ld_d_iyl => .loadReg .d .iyl
  | .ld_d_miyd d => .loadMem 3 .d (.idx .iy d)
  | .ld_e_iyh => .loadReg .e .iyh
  | .ld_e_iyl => .loadReg .e .iyl
  | .ld_e_miyd d => .loadMem 3 .e (.idx .iy d)
  | .ld_iyh_b => .loadReg .iyh .b
  | .ld_iyh_c => .loadReg .iyh .c
  | .ld_iyh_d => .loadReg .iyh .d
  | .ld_iyh_e => .loadReg .iyh .e
  | .ld_iyh_iyh => .loadReg .iyh .iyh
  | .ld_iyh_iyl => .loadReg .iyh .iyl
  | .ld_h_miyd d => .loadMem 3 .h (.idx .iy d)
  | .ld_iyh_a => .loadReg .iyh .a
  | .ld_iyl_b => .loadReg .iyl .b
  | .ld_iyl_c => .loadReg .iyl .c
  | .ld_iyl_d => .loadReg .iyl .d
  | .ld_iyl_e => .loadReg .iyl .e
  | .ld_iyl_iyh => .loadReg .iyl .iyh
  | .ld_iyl_iyl => .loadReg .iyl .iyl
  | .ld_l_miyd d => .loadMem 3 .l (.idx .iy d)
  | .ld_iyl_a => .loadReg .iyl .a
  | .ld_miyd_b d => .storeReg 3 (.idx .iy d) .b
  | .ld_miyd_c d => .storeReg 3 (.idx .iy d) .c
  | .ld_miyd_d d => .storeReg 3 (.idx .iy d) .d
  | .ld_miyd_e d => .storeReg 3 (.idx .iy d) .e
  | .ld_miyd_h d => .storeReg 3 (.idx .iy d) .h
  | .ld_miyd_l d => .storeReg 3 (.idx .iy d) .l
  | .ld_miyd_a d => .storeReg 3 (.idx .iy d) .a
  | .ld_a_iyh => .loadReg .a .iyh
  | .ld_a_iyl => .loadReg .a .iyl
  | .ld_a_miyd d => .loadMem 3 .a (.idx .iy d)
  | .add_a_iyh => .add 2 (.reg .iyh)
  | .add_a_iyl => .add 2 (.reg .iyl)
  | .add_a_miyd d => .add 3 (.mem (.idx .iy d))
  | .adc_a_iyh => .adc 2 (.reg .iyh)
  | .adc_a_iyl => .adc 2 (.reg .iyl)
  | .adc_a_miyd d => .adc 3 (.mem (.idx .iy d))
  | .sub_iyh => .sub 2 (.reg .iyh)
  | .sub_iyl => .sub 2 (.reg .iyl)
  | .sub_miyd d => .sub 3 (.mem (.idx .iy d))
  | .sbc_a_iyh => .sbc 2 (.reg .iyh)
  | .sbc_a_iyl => .sbc 2 (.reg .iyl)
  | .sbc_a_miyd d => .sbc 3 (.mem (.idx .iy d))
  | .and_iyh => .and 2 (.reg .iyh)
  | .and_iyl => .and 2 (.reg .iyl)
  | .and_miyd d => .and 3 (.mem (.idx .iy d))
  | .xor_iyh => .xor 2 (.reg .iyh)
  | .xor_iyl => .xor 2 (.reg .iyl)
  | .xor_miyd d => .xor 3 (.mem (.idx .iy d))
  | .or_iyh => .or 2 (.reg .iyh)
  | .or_iyl => .or 2 (.reg .iyl)
  | .or_miyd d => .or 3 (.mem (.idx .iy d))
  | .cp_iyh => .cp 2 (.reg .iyh)
  | .cp_iyl => .cp 2 (.reg .iyl)
  | .cp_miyd d => .cp 3 (.mem (.idx .iy d))
  | .pop_iy => .pop 2 .iy
  | .ex_msp_iy => .exTop 2 .iy
  | .push_iy => .push 2 .iy
  | .jp_miy => .jumpPair .iy
  | .ld_sp_iy => .loadSp .iy
  | .rlc_miyd_b d => .rotMem 4 .rlc (.idx .iy d) (some .b)
  | .rlc_miyd_c d => .rotMem 4 .rlc (.idx .iy d) (some .c)
  | .rlc_miyd_d d => .rotMem 4 .rlc (.idx .iy d) (some .d)
  | .rlc_miyd_e d => .rotMem 4 .rlc (.idx .iy d) (some .e)
  | .rlc_miyd_h d => .rotMem 4 .rlc (.idx .iy d) (some .h)
  | .rlc_miyd_l d => .rotMem 4 .rlc (.idx .iy d) (some .l)
  | .rlc_miyd d => .rotMem 4 .rlc (.idx .iy d) none
  | .rlc_miyd_a d => .rotMem 4 .rlc (.idx .iy d) (some .a)
  | .rrc_miyd_b d => .rotMem 4 .rrc (.idx .iy d) (some .b)
  | .rrc_miyd_c d => .rotMem 4 .rrc (.idx .iy d) (some .c)
  | .rrc_miyd_d d => .rotMem 4 .rrc (.idx .iy d) (some .d)
  | .rrc_miyd_e d => .rotMem 4 .rrc (.idx .iy d) (some .e)
  | .rrc_miyd_h d => .rotMem 4 .rrc (.idx .iy d) (some .h)
  | .rrc_miyd_l d => .rotMem 4 .rrc (.idx .iy d) (some .l)
  | .rrc_miyd d => .rotMem 4 .rrc (.idx .iy d) none
  | .rrc_miyd_a d => .rotMem 4 .rrc (.idx .iy d) (some .a)
  | .rl_miyd_b d => .rotMem 4 .rl (.idx .iy d) (some .b)
  | .rl_miyd_c d => .rotMem 4 .rl (.idx .iy d) (some .c)
  | .rl_miyd_d d => .rotMem 4 .rl (.idx .iy d) (some .d)
  | .rl_miyd_e d => .rotMem 4 .rl (.idx .iy d) (some .e)
  | .rl_miyd_h d => .rotMem 4 .rl (.idx .iy d) (some .h)
  | .rl_miyd_l d => .rotMem 4 .rl (.idx .iy d) (some .l)
  | .rl_miyd d => .rotMem 4 .rl (.idx .iy d) none
  | .rl_miyd_a d => .rotMem 4 .rl (.idx .iy d) (some .a)
  | .rr_miyd_b d => .rotMem 4 .rr (.idx .iy d) (some .b)
  | .rr_miyd_c d => .rotMem 4 .rr (.idx .iy d) (some .c)
  | .rr_miyd_d d => .rotMem 4 .rr (.idx .iy d) (some .d)
  | .rr_miyd_e d => .rotMem 4 .rr (.idx .iy d) (some .e)
  | .rr_miyd_h d => .rotMem 4 .rr (.idx .iy d) (some .h)
  | .rr_miyd_l d => .rotMem 4 .rr (.idx .iy d) (some .l)
  | .rr_miyd d => .rotMem 4 .rr (.idx .iy d) none
  | .rr_miyd_a d => .rotMem 4 .rr (.idx .iy d) (some .a)
  | .sla_miyd_b d => .rotMem 4 .sla (.idx .iy d) (some .b)
  | .sla_miyd_c d => .rotMem 4 .sla (.idx .iy d) (some .c)
  | .sla_miyd_d d => .rotMem 4 .sla (.idx .iy d) (some .d)
  | .sla_miyd_e d => .rotMem 4 .sla (.idx .iy d) (some .e)
  | .sla_miyd_h d => .rotMem 4 .sla (.idx .iy d) (some .h)
  | .sla_miyd_l d => .rotMem 4 .sla (.idx .iy d) (some .l)
  | .sla_miyd d => .rotMem 4 .sla (.idx .iy d) none
  | .sla_miyd_a d => .rotMem 4 .sla (.idx .iy d) (some .a)
  | .sra_miyd_b d => .rotMem 4 .sra (.idx .iy d) (some .b)
  | .sra_miyd_c d => .rotMem 4 .sra (.idx .iy d) (some .c)
  | .sra_miyd_d d => .rotMem 4 .sra (.idx .iy d) (some .d)
  | .sra_miyd_e d => .rotMem 4 .sra (.idx .iy d) (some .e)
  | .sra_miyd_h d => .rotMem 4 .sra (.idx .iy d) (some .h)
  | .sra_miyd_l d => .rotMem 4 .sra (.idx .iy d) (some .l)
  | .sra_miyd d => .rotMem 4 .sra (.idx .iy d) none
  | .sra_miyd_a d => .rotMem 4 .sra (.idx .iy d) (some .a)
  | .sll_miyd_b d => .rotMem 4 .sll (.idx .iy d) (some .b)
  | .sll_miyd_c d => .rotMem 4 .sll (.idx .iy d) (some .c)
  | .sll_miyd_d d => .rotMem 4 .sll (.idx .iy d) (some .d)
  | .sll_miyd_e d => .rotMem 4 .sll (.idx .iy d) (some .e)
  | .sll_miyd_h d => .rotMem 4 .sll (.idx .iy d) (some .h)
  | .sll_miyd_l d => .rotMem 4 .sll (.idx .iy d) (some .l)
  | .sll_miyd d => .rotMem 4 .sll (.idx .iy d) none
  | .sll_miyd_a d => .rotMem 4 .sll (.idx .iy d) (some .a)
  | .srl_miyd_b d => .rotMem 4 .srl (.idx .iy d) (some .b)
  | .srl_miyd_c d => .rotMem 4 .srl (.idx .iy d) (some .c)
  | .srl_miyd_d d => .rotMem 4 .srl (.idx .iy d) (some .d)
  | .srl_miyd_e d => .rotMem 4 .srl (.idx .iy d) (some .e)
  | .srl_miyd_h d => .rotMem 4 .srl (.idx .iy d) (some .h)
  | .srl_miyd_l d => .rotMem 4 .srl (.idx .iy d) (some .l)
  | .srl_miyd d => .rotMem 4 .srl (.idx .iy d) none
  | .srl_miyd_a d => .rotMem 4 .srl (.idx .iy d) (some .a)
  | .bit_0_miyd d _ => .bitIdx 0 .iy d
  | .bit_1_miyd d _ => .bitIdx 1 .iy d
  | .bit_2_miyd d _ => .bitIdx 2 .iy d
  | .bit_3_miyd d _ => .bitIdx 3 .iy d
  | .bit_4_miyd d _ => .bitIdx 4 .iy d
  | .bit_5_miyd d _ => .bitIdx 5 .iy d
  | .bit_6_miyd d _ => .bitIdx 6 .iy d
  | .bit_7_miyd d _ => .bitIdx 7 .iy d
  | .res_0_miyd_b d => .resMem 4 0 (.idx .iy d) (some .b)
  | .res_0_miyd_c d => .resMem 4 0 (.idx .iy d) (some .c)
  | .res_0_miyd_d d => .resMem 4 0 (.idx .iy d) (some .d)
  | .res_0_miyd_e d => .resMem 4 0 (.idx .iy d) (some .e)
  | .res_0_miyd_h d => .resMem 4 0 (.idx .iy d) (some .h)
  | .res_0_miyd_l d => .resMem 4 0 (.idx .iy d) (some .l)
  | .res_0_miyd d => .resMem 4 0 (.idx .iy d) none
  | .res_0_miyd_a d => .resMem 4 0 (.idx .iy d) (some .a)
  | .res_1_miyd_b d => .resMem 4 1 (.idx .iy d) (some .b)
  | .res_1_miyd_c d => .resMem 4 1 (.idx .iy d) (some .c)
  | .res_1_miyd_d d => .resMem 4 1 (.idx .iy d) (some .d)
  | .res_1_miyd_e d => .resMem 4 1 (.idx .iy d) (some .e)
  | .res_1_miyd_h d => .resMem 4 1 (.idx .iy d) (some .h)
  | .res_1_miyd_l d => .resMem 4 1 (.idx .iy d) (some .l)
  | .res_1_miyd d => .resMem 4 1 (.idx .iy d) none
  | .res_1_miyd_a d => .resMem 4 1 (.idx .iy d) (some .a)
  | .res_2_miyd_b d => .resMem 4 2 (.idx .iy d) (some .b)
  | .res_2_miyd_c d => .resMem 4 2 (.idx .iy d) (some .c)
  | .res_2_miyd_d d => .resMem 4 2 (.idx .iy d) (some .d)
  | .res_2_miyd_e d => .resMem 4 2 (.idx .iy d) (some .e)
  | .res_2_miyd_h d => .resMem 4 2 (.idx .iy d) (some .h)
  | .res_2_miyd_l d => .resMem 4 2 (.idx .iy d) (some .l)
  | .res_2_miyd d => .resMem 4 2 (.idx .iy d) none
  | .res_2_miyd_a d => .resMem 4 2 (.idx .iy d) (some .a)
  | .res_3_miyd_b d => .resMem 4 3 (.idx .iy d) (some .b)
  | .res_3_miyd_c d => .resMem 4 3 (.idx .iy d) (some .c)
  | .res_3_miyd_d d => .resMem 4 3 (.idx .iy d) (some .d)
  | .res_3_miyd_e d => .resMem 4 3 (.idx .iy d) (some .e)
  | .res_3_miyd_h d => .resMem 4 3 (.idx .iy d) (some .h)
  | .res_3_miyd_l d => .resMem 4 3 (.idx .iy d) (some .l)
  | .res_3_miyd d => .resMem 4 3 (.idx .iy d) none
  | .res_3_miyd_a d => .resMem 4 3 (.idx .iy d) (some .a)
  | .res_4_miyd_b d => .resMem 4 4 (.idx .iy d) (some .b)
  | .res_4_miyd_c d => .resMem 4 4 (.idx .iy d) (some .c)
  | .res_4_miyd_d d => .resMem 4 4 (.idx .iy d) (some .d)
  | .res_4_miyd_e d => .resMem 4 4 (.idx .iy d) (some .e)
  | .res_4_miyd_h d => .resMem 4 4 (.idx .iy d) (some .h)
  | .res_4_miyd_l d => .resMem 4 4 (.idx .iy d) (some .l)
  | .res_4_miyd d => .resMem 4 4 (.idx .iy d) none
  | .res_4_miyd_a d => .resMem 4 4 (.idx .iy d) (some .a)
  | .res_5_miyd_b d => .resMem 4 5 (.idx .iy d) (some .b)
  | .res_5_miyd_c d => .resMem 4 5 (.idx .iy d) (some .c)
  | .res_5_miyd_d d => .resMem 4 5 (.idx .iy d) (some .d)
  | .res_5_miyd_e d => .resMem 4 5 (.idx .iy d) (some .e)
  | .res_5_miyd_h d => .resMem 4 5 (.idx .iy d) (some .h)
  | .res_5_miyd_l d => .resMem 4 5 (.idx .iy d) (some .l)
  | .res_5_miyd d => .resMem 4 5 (.idx .iy d) none
  | .res_5_miyd_a d => .resMem 4 5 (.idx .iy d) (some .a)
  | .res_6_miyd_b d => .resMem 4 6 (.idx .iy d) (some .b)
  | .res_6_miyd_c d => .resMem 4 6 (.idx .iy d) (some .c)
  | .res_6_miyd_d d => .resMem 4 6 (.idx .iy d) (some .d)
  | .res_6_miyd_e d => .resMem 4 6 (.idx .iy d) (some .e)
  | .res_6_miyd_h d => .resMem 4 6 (.idx .iy d) (some .h)
  | .res_6_miyd_l d => .resMem 4 6 (.idx .iy d) (some .l)
  | .res_6_miyd d => .resMem 4 6 (.idx .iy d) none
  | .res_6_miyd_a d => .resMem 4 6 (.idx .iy d) (some .a)
  | .res_7_miyd_b d => .resMem 4 7 (.idx .iy d) (some .b)
  | .res_7_miyd_c d => .resMem 4 7 (.idx .iy d) (some .c)
  | .res_7_miyd_d d => .resMem 4 7 (.idx .iy d) (some .d)
  | .res_7_miyd_e d => .resMem 4 7 (.idx .iy d) (some .e)
  | .res_7_miyd_h d => .resMem 4 7 (.idx .iy d) (some .h)
  | .res_7_miyd_l d => .resMem 4 7 (.idx .iy d) (some .l)
  | .res_7_miyd d => .resMem 4 7 (.idx .iy d) none
  | .res_7_miyd_a d => .resMem 4 7 (.idx .iy d) (some .a)
  | .set_0_miyd_b d => .setMem 4 0 (.idx .iy d) (some .b)
  | .set_0_miyd_c d => .setMem 4 0 (.idx .iy d) (some .c)
  | .set_0_miyd_d d => .setMem 4 0 (.idx .iy d) (some .d)
  | .set_0_miyd_e d => .setMem 4 0 (.idx .iy d) (some .e)
  | .set_0_miyd_h d => .setMem 4 0 (.idx .iy d) (some .h)
  | .set_0_miyd_l d => .setMem 4 0 (.idx .iy d) (some .l)
  | .set_0_miyd d => .setMem 4 0 (.idx .iy d) none
  | .set_0_miyd_a d => .setMem 4 0 (.idx .iy d) (some .a)
  | .set_1_miyd_b d => .setMem 4 1 (.idx .iy d) (some .b)
  | .set_1_miyd_c d => .setMem 4 1 (.idx .iy d) (some .c)
  | .set_1_miyd_d d => .setMem 4 1 (.idx .iy d) (some .d)
  | .set_1_miyd_e d => .setMem 4 1 (.idx .iy d) (some .e)
  | .set_1_miyd_h d => .setMem 4 1 (.idx .iy d) (some .h)
  | .set_1_miyd_l d => .setMem 4 1 (.idx .iy d) (some .l)
  | .set_1_miyd d => .setMem 4 1 (.idx .iy d) none
  | .set_1_miyd_a d => .setMem 4 1 (.idx .iy d) (some .a)
  | .set_2_miyd_b d => .setMem 4 2 (.idx .iy d) (some .b)
  | .set_2_miyd_c d => .setMem 4 2 (.idx .iy d) (some .c)
  | .set_2_miyd_d d => .setMem 4 2 (.idx .iy d) (some .d)
  | .set_2_miyd_e d => .setMem 4 2 (.idx .iy d) (some .e)
  | .set_2_miyd_h d => .setMem 4 2 (.idx .iy d) (some .h)
  | .set_2_miyd_l d => .setMem 4 2 (.idx .iy d) (some .l)
  | .set_2_miyd d => .setMem 4 2 (.idx .iy d) none
  | .set_2_miyd_a d => .setMem 4 2 (.idx .iy d) (some .a)
  | .set_3_miyd_b d => .setMem 4 3 (.idx .iy d) (some .b)
  | .set_3_miyd_c d => .setMem 4 3 (.idx .iy d) (some .c)
  | .set_3_miyd_d d => .setMem 4 3 (.idx .iy d) (some .d)
  | .set_3_miyd_e d => .setMem 4 3 (.idx .iy d) (some .e)
  | .set_3_miyd_h d => .setMem 4 3 (.idx .iy d) (some .h)
  | .set_3_miyd_l d => .setMem 4 3 (.idx .iy d) (some .l)
  | .set_3_miyd d => .setMem 4 3 (.idx .iy d) none
  | .set_3_miyd_a d => .setMem 4 3 (.idx .iy d) (some .a)
  | .set_4_miyd_b d => .setMem 4 4 (.idx .iy d) (some .b)
  | .set_4_miyd_c d => .setMem 4 4 (.idx .iy d) (some .c)
  | .set_4_miyd_d d => .setMem 4 4 (.idx .iy d) (some .d)
  | .set_4_miyd_e d => .setMem 4 4 (.idx .iy d) (some .e)
  | .set_4_miyd_h d => .setMem 4 4 (.idx .iy d) (some .h)
  | .set_4_miyd_l d => .setMem 4 4 (.idx .iy d) (some .l)
  | .set_4_miyd d => .setMem 4 4 (.idx .iy d) none
  | .set_4_miyd_a d => .setMem 4 4 (.idx .iy d) (some .a)
  | .set_5_miyd_b d => .setMem 4 5 (.idx .iy d) (some .b)
  | .set_5_miyd_c d => .setMem 4 5 (.idx .iy d) (some .c)
  | .set_5_miyd_d d => .setMem 4 5 (.idx .iy d) (some .d)
  | .set_5_miyd_e d => .setMem 4 5 (.idx .iy d) (some .e)
  | .set_5_miyd_h d => .setMem 4 5 (.idx .iy d) (some .h)
  | .set_5_miyd_l d => .setMem 4 5 (.idx .iy d) (some .l)
  | .set_5_miyd d => .setMem 4 5 (.idx .iy d) none
  | .set_5_miyd_a d => .setMem 4 5 (.idx .iy d) (some .a)
  | .set_6_miyd_b d => .setMem 4 6 (.idx .iy d) (some .b)
  | .set_6_miyd_c d => .setMem 4 6 (.idx .iy d) (some .c)
  | .set_6_miyd_d d => .setMem 4 6 (.idx .iy d) (some .d)
  | .set_6_miyd_e d => .setMem 4 6 (.idx .iy d) (some .e)
  | .set_6_miyd_h d => .setMem 4 6 (.idx .iy d) (some .h)
  | .set_6_miyd_l d => .setMem 4 6 (.idx .iy d) (some .l)
  | .set_6_miyd d => .setMem 4 6 (.idx .iy d) none
  | .set_6_miyd_a d => .setMem 4 6 (.idx .iy d) (some .a)
  | .set_7_miyd_b d => .setMem 4 7 (.idx .iy d) (some .b)
  | .set_7_miyd_c d => .setMem 4 7 (.idx .iy d) (some .c)
  | .set_7_miyd_d d => .setMem 4 7 (.idx .iy d) (some .d)
  | .set_7_miyd_e d => .setMem 4 7 (.idx .iy d) (some .e)
  | .set_7_miyd_h d => .setMem 4 7 (.idx .iy d) (some .h)
  | .set_7_miyd_l d => .setMem 4 7 (.idx .iy d) (some .l)
  | .set_7_miyd d => .setMem 4 7 (.idx .iy d) none
  | .set_7_miyd_a d => .setMem 4 7 (.idx .iy d) (some .a)

/-- Every instruction's meaning is its operation. -/
theorem exec_eq_run (i : Instr) (s : State) : exec i s = runForm (form i) s := by
  cases i <;> rfl

end Sys2Proof.Laws
end

