-- ==== Sys2Proof/Laws/Memory.lean ====
section
/-! SUPPORT. The laws of a cell array: a read after a write, and the canonical form. -/

namespace Sys2Proof.Machine

/-! ### Read after write -/

theorem Memory.read_filter_same (m : Memory) (a : Nat) :
    Memory.read (m.filter (fun cell => cell.1 != a)) a = unlistedByte := by
  induction m with
  | nil => rfl
  | cons cell m ih =>
    obtain ⟨k, v⟩ := cell
    by_cases h : k = a
    · simp [h, ih]
    · simp [h, Memory.read, ih, Ne.symm h]

theorem Memory.read_filter_ne (m : Memory) (a b : Nat) (hne : b ≠ a) :
    Memory.read (m.filter (fun cell => cell.1 != a)) b = m.read b := by
  induction m with
  | nil => rfl
  | cons cell m ih =>
    obtain ⟨k, v⟩ := cell
    by_cases h : k = a
    · subst h; simp [Memory.read, ih, hne]
    · by_cases hb : b = k
      · simp [h, Memory.read, hb]
      · simp [h, Memory.read, ih, hb]

theorem Memory.read_insert (m : Memory) (a b : Nat) (v : Byte) (hm : ∀ cell ∈ m, cell.1 ≠ a) :
    Memory.read (m.insert a v) b = if b = a then v else m.read b := by
  induction m with
  | nil => simp [Memory.insert, Memory.read]
  | cons cell m ih =>
    obtain ⟨k, x⟩ := cell
    have hk : k ≠ a := hm _ (List.mem_cons_self ..)
    have ih := ih fun c hc => hm c (List.mem_cons_of_mem _ hc)
    unfold Memory.insert
    split
    · simp [Memory.read]
    · by_cases hb : b = k
      · subst hb; simp [Memory.read, hk]
      · simp [Memory.read, hb, ih]

/-- The whole effect of a write on reads: the written cell holds the value, every other cell is as before. -/
theorem Memory.read_write (m : Memory) (a b : Nat) (v : Byte) :
    Memory.read (m.write a v) b = if b = a then v else m.read b := by
  unfold Memory.write
  split
  · rename_i hv
    split
    · rename_i hb; subst hb; rw [Memory.read_filter_same, hv]
    · rename_i hb; exact Memory.read_filter_ne m a b hb
  · rw [Memory.read_insert _ _ _ _ (by intro c hc; simpa using (List.mem_filter.1 hc).2)]
    split
    · rfl
    · rename_i hb; exact Memory.read_filter_ne m a b hb

/-! ### The canonical form -/

theorem Memory.wfFrom_mono {size lo lo' : Nat} {m : Memory} (hle : lo' ≤ lo) (h : Memory.wfFrom size lo m = true) :
    Memory.wfFrom size lo' m = true := by
  cases m with
  | nil => rfl
  | cons cell m =>
    obtain ⟨k, v⟩ := cell
    simp only [Memory.wfFrom, Bool.and_eq_true, decide_eq_true_eq] at h ⊢
    exact ⟨⟨⟨hle.trans h.1.1.1, h.1.1.2⟩, h.1.2⟩, h.2⟩

theorem Memory.wfFrom_filter {size : Nat} (p : Host.Cell → Bool) {lo : Nat} {m : Memory}
    (h : Memory.wfFrom size lo m = true) : Memory.wfFrom size lo (m.filter p) = true := by
  induction m generalizing lo with
  | nil => rfl
  | cons cell m ih =>
    obtain ⟨k, v⟩ := cell
    simp only [Memory.wfFrom, Bool.and_eq_true, decide_eq_true_eq] at h
    rw [List.filter_cons]
    split
    · simp only [Memory.wfFrom, Bool.and_eq_true, decide_eq_true_eq]
      exact ⟨h.1, ih h.2⟩
    · exact Memory.wfFrom_mono (h.1.1.1.trans (Nat.le_succ k)) (ih h.2)

theorem Memory.wfFrom_insert {size lo : Nat} {m : Memory} {a : Nat} {v : Byte} (h : Memory.wfFrom size lo m = true)
    (hlo : lo ≤ a) (hsize : a < size) (hv : v ≠ unlistedByte) (hm : ∀ cell ∈ m, cell.1 ≠ a) :
    Memory.wfFrom size lo (m.insert a v) = true := by
  induction m generalizing lo with
  | nil => simp [Memory.insert, Memory.wfFrom, hlo, hsize, hv]
  | cons cell m ih =>
    obtain ⟨k, x⟩ := cell
    have hk : k ≠ a := hm _ (List.mem_cons_self ..)
    simp only [Memory.wfFrom, Bool.and_eq_true, decide_eq_true_eq, bne_iff_ne] at h
    unfold Memory.insert
    split
    · simp only [Memory.wfFrom, Bool.and_eq_true, decide_eq_true_eq, bne_iff_ne]
      exact ⟨⟨⟨hlo, hsize⟩, hv⟩, ⟨⟨by omega, h.1.1.2⟩, h.1.2⟩, h.2⟩
    · simp only [Memory.wfFrom, Bool.and_eq_true, decide_eq_true_eq, bne_iff_ne]
      exact ⟨h.1, ih h.2 (by omega) fun c hc => hm c (List.mem_cons_of_mem _ hc)⟩

/-- A write inside the space keeps the canonical form. -/
theorem Memory.write_wf {size : Nat} {m : Memory} {a : Nat} (v : Byte) (h : m.wf size = true) (ha : a < size) :
    (m.write a v).wf size = true := by
  unfold Memory.wf Memory.write at *
  split
  · exact Memory.wfFrom_filter _ h
  · rename_i hv
    exact Memory.wfFrom_insert (Memory.wfFrom_filter _ h) (Nat.zero_le _) ha hv
      (by intro c hc; simpa using (List.mem_filter.1 hc).2)

theorem Memory.foldCells_wf (size : Nat) (cells : List Host.Cell) (m : Memory) (h : m.wf size = true) :
    Memory.wf size (cells.foldl (fun m cell => if cell.1 < size then m.write cell.1 cell.2 else m) m) = true := by
  induction cells generalizing m with
  | nil => exact h
  | cons cell cells ih =>
    refine ih _ ?_
    dsimp only
    split
    · exact Memory.write_wf _ h ‹_›
    · exact h

/-- Whatever cells are listed, the memory made of them is canonical. -/
theorem Memory.ofCells_wf (size : Nat) (cells : List Host.Cell) : (Memory.ofCells size cells).wf size = true :=
  Memory.foldCells_wf size cells [] rfl

theorem Memory.read_of_lt {size lo : Nat} {m : Memory} {a : Nat} (h : Memory.wfFrom size lo m = true) (ha : a < lo) :
    m.read a = unlistedByte := by
  induction m generalizing lo with
  | nil => rfl
  | cons cell m ih =>
    obtain ⟨k, v⟩ := cell
    simp only [Memory.wfFrom, Bool.and_eq_true, decide_eq_true_eq] at h
    have hk : a ≠ k := by omega
    simp only [Memory.read, hk, if_false]
    exact ih h.2 (by omega)

theorem Memory.ext_from {size lo : Nat} {m m' : Memory} (h : Memory.wfFrom size lo m = true)
    (h' : Memory.wfFrom size lo m' = true) (heq : ∀ a, m.read a = m'.read a) : m = m' := by
  induction m generalizing lo m' with
  | nil =>
    cases m' with
    | nil => rfl
    | cons cell m' =>
      obtain ⟨k, v⟩ := cell
      simp only [Memory.wfFrom, Bool.and_eq_true, bne_iff_ne] at h'
      have := heq k
      simp only [Memory.read, if_true] at this
      exact absurd this.symm h'.1.2
  | cons cell m ih =>
    obtain ⟨k, v⟩ := cell
    simp only [Memory.wfFrom, Bool.and_eq_true, decide_eq_true_eq, bne_iff_ne] at h
    cases m' with
    | nil =>
      have := heq k
      simp only [Memory.read, if_true] at this
      exact absurd this h.1.2
    | cons cell' m' =>
      obtain ⟨k', v'⟩ := cell'
      simp only [Memory.wfFrom, Bool.and_eq_true, decide_eq_true_eq, bne_iff_ne] at h'
      have hk : k = k' := by
        rcases Nat.lt_trichotomy k k' with hlt | heq' | hgt
        · have := heq k
          have hne : k ≠ k' := by omega
          simp only [Memory.read, if_true, hne, if_false, Memory.read_of_lt h'.2 (show k < k' + 1 by omega)] at this
          exact absurd this h.1.2
        · exact heq'
        · have := heq k'
          have hne : k' ≠ k := by omega
          simp only [Memory.read, if_true, hne, if_false, Memory.read_of_lt h.2 (show k' < k + 1 by omega)] at this
          exact absurd this.symm h'.1.2
      subst hk
      have hv : v = v' := by simpa [Memory.read] using heq k
      subst hv
      rw [ih h.2 h'.2]
      intro a
      by_cases ha : a = k
      · subst ha
        rw [Memory.read_of_lt h.2 (Nat.lt_succ_self _), Memory.read_of_lt h'.2 (Nat.lt_succ_self _)]
      · simpa [Memory.read, ha] using heq a

/-- Canonical memories that read alike are equal data. -/
theorem Memory.ext {size : Nat} {m m' : Memory} (h : m.wf size = true) (h' : m'.wf size = true)
    (heq : ∀ a, m.read a = m'.read a) : m = m' := Memory.ext_from h h' heq

/-- Reset lists no cell. -/
theorem State.reset_mem_wf : State.reset.mem.wf State.reset.params.memSize = true := rfl

end Sys2Proof.Machine
end

