-- ==== Sys2Proof/Laws/State.lean ====
section
/-! SUPPORT. What each update of the state leaves and what it writes, one lemma for each field, so that no proof unfolds a
record update; and the laws of the named flag bits and of the byte halves of a word. -/

namespace Sys2Proof.Machine

variable (s : State)

/-! ### `setReg8` -/

@[simp] theorem State.setReg8_f (r : Reg8) (v : Byte) : (s.setReg8 r v).f = s.f := by cases r <;> rfl
@[simp] theorem State.setReg8_a' (r : Reg8) (v : Byte) : (s.setReg8 r v).a' = s.a' := by cases r <;> rfl
@[simp] theorem State.setReg8_f' (r : Reg8) (v : Byte) : (s.setReg8 r v).f' = s.f' := by cases r <;> rfl
@[simp] theorem State.setReg8_b' (r : Reg8) (v : Byte) : (s.setReg8 r v).b' = s.b' := by cases r <;> rfl
@[simp] theorem State.setReg8_c' (r : Reg8) (v : Byte) : (s.setReg8 r v).c' = s.c' := by cases r <;> rfl
@[simp] theorem State.setReg8_d' (r : Reg8) (v : Byte) : (s.setReg8 r v).d' = s.d' := by cases r <;> rfl
@[simp] theorem State.setReg8_e' (r : Reg8) (v : Byte) : (s.setReg8 r v).e' = s.e' := by cases r <;> rfl
@[simp] theorem State.setReg8_h' (r : Reg8) (v : Byte) : (s.setReg8 r v).h' = s.h' := by cases r <;> rfl
@[simp] theorem State.setReg8_l' (r : Reg8) (v : Byte) : (s.setReg8 r v).l' = s.l' := by cases r <;> rfl
@[simp] theorem State.setReg8_sp (r : Reg8) (v : Byte) : (s.setReg8 r v).sp = s.sp := by cases r <;> rfl
@[simp] theorem State.setReg8_pc (r : Reg8) (v : Byte) : (s.setReg8 r v).pc = s.pc := by cases r <;> rfl
@[simp] theorem State.setReg8_i (r : Reg8) (v : Byte) : (s.setReg8 r v).i = s.i := by cases r <;> rfl
@[simp] theorem State.setReg8_r (r : Reg8) (v : Byte) : (s.setReg8 r v).r = s.r := by cases r <;> rfl
@[simp] theorem State.setReg8_iff1 (r : Reg8) (v : Byte) : (s.setReg8 r v).iff1 = s.iff1 := by cases r <;> rfl
@[simp] theorem State.setReg8_iff2 (r : Reg8) (v : Byte) : (s.setReg8 r v).iff2 = s.iff2 := by cases r <;> rfl
@[simp] theorem State.setReg8_im (r : Reg8) (v : Byte) : (s.setReg8 r v).im = s.im := by cases r <;> rfl
@[simp] theorem State.setReg8_status (r : Reg8) (v : Byte) : (s.setReg8 r v).status = s.status := by cases r <;> rfl
@[simp] theorem State.setReg8_mem (r : Reg8) (v : Byte) : (s.setReg8 r v).mem = s.mem := by cases r <;> rfl
@[simp] theorem State.setReg8_ports (r : Reg8) (v : Byte) : (s.setReg8 r v).ports = s.ports := by cases r <;> rfl
@[simp] theorem State.setReg8_draws (r : Reg8) (v : Byte) : (s.setReg8 r v).draws = s.draws := by cases r <;> rfl
@[simp] theorem State.setReg8_params (r : Reg8) (v : Byte) : (s.setReg8 r v).params = s.params := by cases r <;> rfl

/-! ### `setPair` -/

@[simp] theorem State.setPair_a' (p : Pair) (v : Word) : (s.setPair p v).a' = s.a' := by cases p <;> rfl
@[simp] theorem State.setPair_f' (p : Pair) (v : Word) : (s.setPair p v).f' = s.f' := by cases p <;> rfl
@[simp] theorem State.setPair_b' (p : Pair) (v : Word) : (s.setPair p v).b' = s.b' := by cases p <;> rfl
@[simp] theorem State.setPair_c' (p : Pair) (v : Word) : (s.setPair p v).c' = s.c' := by cases p <;> rfl
@[simp] theorem State.setPair_d' (p : Pair) (v : Word) : (s.setPair p v).d' = s.d' := by cases p <;> rfl
@[simp] theorem State.setPair_e' (p : Pair) (v : Word) : (s.setPair p v).e' = s.e' := by cases p <;> rfl
@[simp] theorem State.setPair_h' (p : Pair) (v : Word) : (s.setPair p v).h' = s.h' := by cases p <;> rfl
@[simp] theorem State.setPair_l' (p : Pair) (v : Word) : (s.setPair p v).l' = s.l' := by cases p <;> rfl
@[simp] theorem State.setPair_pc (p : Pair) (v : Word) : (s.setPair p v).pc = s.pc := by cases p <;> rfl
@[simp] theorem State.setPair_i (p : Pair) (v : Word) : (s.setPair p v).i = s.i := by cases p <;> rfl
@[simp] theorem State.setPair_r (p : Pair) (v : Word) : (s.setPair p v).r = s.r := by cases p <;> rfl
@[simp] theorem State.setPair_iff1 (p : Pair) (v : Word) : (s.setPair p v).iff1 = s.iff1 := by cases p <;> rfl
@[simp] theorem State.setPair_iff2 (p : Pair) (v : Word) : (s.setPair p v).iff2 = s.iff2 := by cases p <;> rfl
@[simp] theorem State.setPair_im (p : Pair) (v : Word) : (s.setPair p v).im = s.im := by cases p <;> rfl
@[simp] theorem State.setPair_status (p : Pair) (v : Word) : (s.setPair p v).status = s.status := by cases p <;> rfl
@[simp] theorem State.setPair_mem (p : Pair) (v : Word) : (s.setPair p v).mem = s.mem := by cases p <;> rfl
@[simp] theorem State.setPair_ports (p : Pair) (v : Word) : (s.setPair p v).ports = s.ports := by cases p <;> rfl
@[simp] theorem State.setPair_draws (p : Pair) (v : Word) : (s.setPair p v).draws = s.draws := by cases p <;> rfl
@[simp] theorem State.setPair_params (p : Pair) (v : Word) : (s.setPair p v).params = s.params := by cases p <;> rfl

/-! ### `copyTo` -/

@[simp] theorem State.copyTo_f (dst : Option Reg8) (v : Byte) : (s.copyTo dst v).f = s.f := by cases dst with | none => rfl | some r => cases r <;> rfl
@[simp] theorem State.copyTo_a' (dst : Option Reg8) (v : Byte) : (s.copyTo dst v).a' = s.a' := by cases dst with | none => rfl | some r => cases r <;> rfl
@[simp] theorem State.copyTo_f' (dst : Option Reg8) (v : Byte) : (s.copyTo dst v).f' = s.f' := by cases dst with | none => rfl | some r => cases r <;> rfl
@[simp] theorem State.copyTo_b' (dst : Option Reg8) (v : Byte) : (s.copyTo dst v).b' = s.b' := by cases dst with | none => rfl | some r => cases r <;> rfl
@[simp] theorem State.copyTo_c' (dst : Option Reg8) (v : Byte) : (s.copyTo dst v).c' = s.c' := by cases dst with | none => rfl | some r => cases r <;> rfl
@[simp] theorem State.copyTo_d' (dst : Option Reg8) (v : Byte) : (s.copyTo dst v).d' = s.d' := by cases dst with | none => rfl | some r => cases r <;> rfl
@[simp] theorem State.copyTo_e' (dst : Option Reg8) (v : Byte) : (s.copyTo dst v).e' = s.e' := by cases dst with | none => rfl | some r => cases r <;> rfl
@[simp] theorem State.copyTo_h' (dst : Option Reg8) (v : Byte) : (s.copyTo dst v).h' = s.h' := by cases dst with | none => rfl | some r => cases r <;> rfl
@[simp] theorem State.copyTo_l' (dst : Option Reg8) (v : Byte) : (s.copyTo dst v).l' = s.l' := by cases dst with | none => rfl | some r => cases r <;> rfl
@[simp] theorem State.copyTo_sp (dst : Option Reg8) (v : Byte) : (s.copyTo dst v).sp = s.sp := by cases dst with | none => rfl | some r => cases r <;> rfl
@[simp] theorem State.copyTo_pc (dst : Option Reg8) (v : Byte) : (s.copyTo dst v).pc = s.pc := by cases dst with | none => rfl | some r => cases r <;> rfl
@[simp] theorem State.copyTo_i (dst : Option Reg8) (v : Byte) : (s.copyTo dst v).i = s.i := by cases dst with | none => rfl | some r => cases r <;> rfl
@[simp] theorem State.copyTo_r (dst : Option Reg8) (v : Byte) : (s.copyTo dst v).r = s.r := by cases dst with | none => rfl | some r => cases r <;> rfl
@[simp] theorem State.copyTo_iff1 (dst : Option Reg8) (v : Byte) : (s.copyTo dst v).iff1 = s.iff1 := by cases dst with | none => rfl | some r => cases r <;> rfl
@[simp] theorem State.copyTo_iff2 (dst : Option Reg8) (v : Byte) : (s.copyTo dst v).iff2 = s.iff2 := by cases dst with | none => rfl | some r => cases r <;> rfl
@[simp] theorem State.copyTo_im (dst : Option Reg8) (v : Byte) : (s.copyTo dst v).im = s.im := by cases dst with | none => rfl | some r => cases r <;> rfl
@[simp] theorem State.copyTo_status (dst : Option Reg8) (v : Byte) : (s.copyTo dst v).status = s.status := by cases dst with | none => rfl | some r => cases r <;> rfl
@[simp] theorem State.copyTo_mem (dst : Option Reg8) (v : Byte) : (s.copyTo dst v).mem = s.mem := by cases dst with | none => rfl | some r => cases r <;> rfl
@[simp] theorem State.copyTo_ports (dst : Option Reg8) (v : Byte) : (s.copyTo dst v).ports = s.ports := by cases dst with | none => rfl | some r => cases r <;> rfl
@[simp] theorem State.copyTo_draws (dst : Option Reg8) (v : Byte) : (s.copyTo dst v).draws = s.draws := by cases dst with | none => rfl | some r => cases r <;> rfl
@[simp] theorem State.copyTo_params (dst : Option Reg8) (v : Byte) : (s.copyTo dst v).params = s.params := by cases dst with | none => rfl | some r => cases r <;> rfl

/-! ### `setFlags` -/

@[simp] theorem State.setFlags_a (x : Flags) : (s.setFlags x).a = s.a := rfl
@[simp] theorem State.setFlags_b (x : Flags) : (s.setFlags x).b = s.b := rfl
@[simp] theorem State.setFlags_c (x : Flags) : (s.setFlags x).c = s.c := rfl
@[simp] theorem State.setFlags_d (x : Flags) : (s.setFlags x).d = s.d := rfl
@[simp] theorem State.setFlags_e (x : Flags) : (s.setFlags x).e = s.e := rfl
@[simp] theorem State.setFlags_h (x : Flags) : (s.setFlags x).h = s.h := rfl
@[simp] theorem State.setFlags_l (x : Flags) : (s.setFlags x).l = s.l := rfl
@[simp] theorem State.setFlags_a' (x : Flags) : (s.setFlags x).a' = s.a' := rfl
@[simp] theorem State.setFlags_f' (x : Flags) : (s.setFlags x).f' = s.f' := rfl
@[simp] theorem State.setFlags_b' (x : Flags) : (s.setFlags x).b' = s.b' := rfl
@[simp] theorem State.setFlags_c' (x : Flags) : (s.setFlags x).c' = s.c' := rfl
@[simp] theorem State.setFlags_d' (x : Flags) : (s.setFlags x).d' = s.d' := rfl
@[simp] theorem State.setFlags_e' (x : Flags) : (s.setFlags x).e' = s.e' := rfl
@[simp] theorem State.setFlags_h' (x : Flags) : (s.setFlags x).h' = s.h' := rfl
@[simp] theorem State.setFlags_l' (x : Flags) : (s.setFlags x).l' = s.l' := rfl
@[simp] theorem State.setFlags_ixh (x : Flags) : (s.setFlags x).ixh = s.ixh := rfl
@[simp] theorem State.setFlags_ixl (x : Flags) : (s.setFlags x).ixl = s.ixl := rfl
@[simp] theorem State.setFlags_iyh (x : Flags) : (s.setFlags x).iyh = s.iyh := rfl
@[simp] theorem State.setFlags_iyl (x : Flags) : (s.setFlags x).iyl = s.iyl := rfl
@[simp] theorem State.setFlags_sp (x : Flags) : (s.setFlags x).sp = s.sp := rfl
@[simp] theorem State.setFlags_pc (x : Flags) : (s.setFlags x).pc = s.pc := rfl
@[simp] theorem State.setFlags_i (x : Flags) : (s.setFlags x).i = s.i := rfl
@[simp] theorem State.setFlags_r (x : Flags) : (s.setFlags x).r = s.r := rfl
@[simp] theorem State.setFlags_iff1 (x : Flags) : (s.setFlags x).iff1 = s.iff1 := rfl
@[simp] theorem State.setFlags_iff2 (x : Flags) : (s.setFlags x).iff2 = s.iff2 := rfl
@[simp] theorem State.setFlags_im (x : Flags) : (s.setFlags x).im = s.im := rfl
@[simp] theorem State.setFlags_status (x : Flags) : (s.setFlags x).status = s.status := rfl
@[simp] theorem State.setFlags_mem (x : Flags) : (s.setFlags x).mem = s.mem := rfl
@[simp] theorem State.setFlags_ports (x : Flags) : (s.setFlags x).ports = s.ports := rfl
@[simp] theorem State.setFlags_draws (x : Flags) : (s.setFlags x).draws = s.draws := rfl
@[simp] theorem State.setFlags_params (x : Flags) : (s.setFlags x).params = s.params := rfl
@[simp] theorem State.setFlags_f (x : Flags) : (s.setFlags x).f = x.toByte := rfl

/-! ### `storeByte` -/

@[simp] theorem State.storeByte_a (k : Word) (v : Byte) : (s.storeByte k v).a = s.a := rfl
@[simp] theorem State.storeByte_f (k : Word) (v : Byte) : (s.storeByte k v).f = s.f := rfl
@[simp] theorem State.storeByte_b (k : Word) (v : Byte) : (s.storeByte k v).b = s.b := rfl
@[simp] theorem State.storeByte_c (k : Word) (v : Byte) : (s.storeByte k v).c = s.c := rfl
@[simp] theorem State.storeByte_d (k : Word) (v : Byte) : (s.storeByte k v).d = s.d := rfl
@[simp] theorem State.storeByte_e (k : Word) (v : Byte) : (s.storeByte k v).e = s.e := rfl
@[simp] theorem State.storeByte_h (k : Word) (v : Byte) : (s.storeByte k v).h = s.h := rfl
@[simp] theorem State.storeByte_l (k : Word) (v : Byte) : (s.storeByte k v).l = s.l := rfl
@[simp] theorem State.storeByte_a' (k : Word) (v : Byte) : (s.storeByte k v).a' = s.a' := rfl
@[simp] theorem State.storeByte_f' (k : Word) (v : Byte) : (s.storeByte k v).f' = s.f' := rfl
@[simp] theorem State.storeByte_b' (k : Word) (v : Byte) : (s.storeByte k v).b' = s.b' := rfl
@[simp] theorem State.storeByte_c' (k : Word) (v : Byte) : (s.storeByte k v).c' = s.c' := rfl
@[simp] theorem State.storeByte_d' (k : Word) (v : Byte) : (s.storeByte k v).d' = s.d' := rfl
@[simp] theorem State.storeByte_e' (k : Word) (v : Byte) : (s.storeByte k v).e' = s.e' := rfl
@[simp] theorem State.storeByte_h' (k : Word) (v : Byte) : (s.storeByte k v).h' = s.h' := rfl
@[simp] theorem State.storeByte_l' (k : Word) (v : Byte) : (s.storeByte k v).l' = s.l' := rfl
@[simp] theorem State.storeByte_ixh (k : Word) (v : Byte) : (s.storeByte k v).ixh = s.ixh := rfl
@[simp] theorem State.storeByte_ixl (k : Word) (v : Byte) : (s.storeByte k v).ixl = s.ixl := rfl
@[simp] theorem State.storeByte_iyh (k : Word) (v : Byte) : (s.storeByte k v).iyh = s.iyh := rfl
@[simp] theorem State.storeByte_iyl (k : Word) (v : Byte) : (s.storeByte k v).iyl = s.iyl := rfl
@[simp] theorem State.storeByte_sp (k : Word) (v : Byte) : (s.storeByte k v).sp = s.sp := rfl
@[simp] theorem State.storeByte_pc (k : Word) (v : Byte) : (s.storeByte k v).pc = s.pc := rfl
@[simp] theorem State.storeByte_i (k : Word) (v : Byte) : (s.storeByte k v).i = s.i := rfl
@[simp] theorem State.storeByte_r (k : Word) (v : Byte) : (s.storeByte k v).r = s.r := rfl
@[simp] theorem State.storeByte_iff1 (k : Word) (v : Byte) : (s.storeByte k v).iff1 = s.iff1 := rfl
@[simp] theorem State.storeByte_iff2 (k : Word) (v : Byte) : (s.storeByte k v).iff2 = s.iff2 := rfl
@[simp] theorem State.storeByte_im (k : Word) (v : Byte) : (s.storeByte k v).im = s.im := rfl
@[simp] theorem State.storeByte_status (k : Word) (v : Byte) : (s.storeByte k v).status = s.status := rfl
@[simp] theorem State.storeByte_ports (k : Word) (v : Byte) : (s.storeByte k v).ports = s.ports := rfl
@[simp] theorem State.storeByte_draws (k : Word) (v : Byte) : (s.storeByte k v).draws = s.draws := rfl
@[simp] theorem State.storeByte_params (k : Word) (v : Byte) : (s.storeByte k v).params = s.params := rfl
@[simp] theorem State.storeByte_mem (k : Word) (v : Byte) : (s.storeByte k v).mem = s.mem.write k.toNat v := rfl

/-! ### `portWrite` -/

@[simp] theorem State.portWrite_a (p v : Byte) : (s.portWrite p v).a = s.a := rfl
@[simp] theorem State.portWrite_f (p v : Byte) : (s.portWrite p v).f = s.f := rfl
@[simp] theorem State.portWrite_b (p v : Byte) : (s.portWrite p v).b = s.b := rfl
@[simp] theorem State.portWrite_c (p v : Byte) : (s.portWrite p v).c = s.c := rfl
@[simp] theorem State.portWrite_d (p v : Byte) : (s.portWrite p v).d = s.d := rfl
@[simp] theorem State.portWrite_e (p v : Byte) : (s.portWrite p v).e = s.e := rfl
@[simp] theorem State.portWrite_h (p v : Byte) : (s.portWrite p v).h = s.h := rfl
@[simp] theorem State.portWrite_l (p v : Byte) : (s.portWrite p v).l = s.l := rfl
@[simp] theorem State.portWrite_a' (p v : Byte) : (s.portWrite p v).a' = s.a' := rfl
@[simp] theorem State.portWrite_f' (p v : Byte) : (s.portWrite p v).f' = s.f' := rfl
@[simp] theorem State.portWrite_b' (p v : Byte) : (s.portWrite p v).b' = s.b' := rfl
@[simp] theorem State.portWrite_c' (p v : Byte) : (s.portWrite p v).c' = s.c' := rfl
@[simp] theorem State.portWrite_d' (p v : Byte) : (s.portWrite p v).d' = s.d' := rfl
@[simp] theorem State.portWrite_e' (p v : Byte) : (s.portWrite p v).e' = s.e' := rfl
@[simp] theorem State.portWrite_h' (p v : Byte) : (s.portWrite p v).h' = s.h' := rfl
@[simp] theorem State.portWrite_l' (p v : Byte) : (s.portWrite p v).l' = s.l' := rfl
@[simp] theorem State.portWrite_ixh (p v : Byte) : (s.portWrite p v).ixh = s.ixh := rfl
@[simp] theorem State.portWrite_ixl (p v : Byte) : (s.portWrite p v).ixl = s.ixl := rfl
@[simp] theorem State.portWrite_iyh (p v : Byte) : (s.portWrite p v).iyh = s.iyh := rfl
@[simp] theorem State.portWrite_iyl (p v : Byte) : (s.portWrite p v).iyl = s.iyl := rfl
@[simp] theorem State.portWrite_sp (p v : Byte) : (s.portWrite p v).sp = s.sp := rfl
@[simp] theorem State.portWrite_pc (p v : Byte) : (s.portWrite p v).pc = s.pc := rfl
@[simp] theorem State.portWrite_i (p v : Byte) : (s.portWrite p v).i = s.i := rfl
@[simp] theorem State.portWrite_r (p v : Byte) : (s.portWrite p v).r = s.r := rfl
@[simp] theorem State.portWrite_iff1 (p v : Byte) : (s.portWrite p v).iff1 = s.iff1 := rfl
@[simp] theorem State.portWrite_iff2 (p v : Byte) : (s.portWrite p v).iff2 = s.iff2 := rfl
@[simp] theorem State.portWrite_im (p v : Byte) : (s.portWrite p v).im = s.im := rfl
@[simp] theorem State.portWrite_status (p v : Byte) : (s.portWrite p v).status = s.status := rfl
@[simp] theorem State.portWrite_mem (p v : Byte) : (s.portWrite p v).mem = s.mem := rfl
@[simp] theorem State.portWrite_draws (p v : Byte) : (s.portWrite p v).draws = s.draws := rfl
@[simp] theorem State.portWrite_params (p v : Byte) : (s.portWrite p v).params = s.params := rfl
@[simp] theorem State.portWrite_ports (p v : Byte) : (s.portWrite p v).ports = s.ports.write p.toNat v := rfl

/-! ### `jump` -/

@[simp] theorem State.jump_a (t : Word) : (s.jump t).a = s.a := rfl
@[simp] theorem State.jump_f (t : Word) : (s.jump t).f = s.f := rfl
@[simp] theorem State.jump_b (t : Word) : (s.jump t).b = s.b := rfl
@[simp] theorem State.jump_c (t : Word) : (s.jump t).c = s.c := rfl
@[simp] theorem State.jump_d (t : Word) : (s.jump t).d = s.d := rfl
@[simp] theorem State.jump_e (t : Word) : (s.jump t).e = s.e := rfl
@[simp] theorem State.jump_h (t : Word) : (s.jump t).h = s.h := rfl
@[simp] theorem State.jump_l (t : Word) : (s.jump t).l = s.l := rfl
@[simp] theorem State.jump_a' (t : Word) : (s.jump t).a' = s.a' := rfl
@[simp] theorem State.jump_f' (t : Word) : (s.jump t).f' = s.f' := rfl
@[simp] theorem State.jump_b' (t : Word) : (s.jump t).b' = s.b' := rfl
@[simp] theorem State.jump_c' (t : Word) : (s.jump t).c' = s.c' := rfl
@[simp] theorem State.jump_d' (t : Word) : (s.jump t).d' = s.d' := rfl
@[simp] theorem State.jump_e' (t : Word) : (s.jump t).e' = s.e' := rfl
@[simp] theorem State.jump_h' (t : Word) : (s.jump t).h' = s.h' := rfl
@[simp] theorem State.jump_l' (t : Word) : (s.jump t).l' = s.l' := rfl
@[simp] theorem State.jump_ixh (t : Word) : (s.jump t).ixh = s.ixh := rfl
@[simp] theorem State.jump_ixl (t : Word) : (s.jump t).ixl = s.ixl := rfl
@[simp] theorem State.jump_iyh (t : Word) : (s.jump t).iyh = s.iyh := rfl
@[simp] theorem State.jump_iyl (t : Word) : (s.jump t).iyl = s.iyl := rfl
@[simp] theorem State.jump_sp (t : Word) : (s.jump t).sp = s.sp := rfl
@[simp] theorem State.jump_i (t : Word) : (s.jump t).i = s.i := rfl
@[simp] theorem State.jump_r (t : Word) : (s.jump t).r = s.r := rfl
@[simp] theorem State.jump_iff1 (t : Word) : (s.jump t).iff1 = s.iff1 := rfl
@[simp] theorem State.jump_iff2 (t : Word) : (s.jump t).iff2 = s.iff2 := rfl
@[simp] theorem State.jump_im (t : Word) : (s.jump t).im = s.im := rfl
@[simp] theorem State.jump_status (t : Word) : (s.jump t).status = s.status := rfl
@[simp] theorem State.jump_mem (t : Word) : (s.jump t).mem = s.mem := rfl
@[simp] theorem State.jump_ports (t : Word) : (s.jump t).ports = s.ports := rfl
@[simp] theorem State.jump_draws (t : Word) : (s.jump t).draws = s.draws := rfl
@[simp] theorem State.jump_params (t : Word) : (s.jump t).params = s.params := rfl
@[simp] theorem State.jump_pc (t : Word) : (s.jump t).pc = t := rfl

/-! ### `advance` -/

@[simp] theorem State.advance_a (n : Nat) : (s.advance n).a = s.a := rfl
@[simp] theorem State.advance_f (n : Nat) : (s.advance n).f = s.f := rfl
@[simp] theorem State.advance_b (n : Nat) : (s.advance n).b = s.b := rfl
@[simp] theorem State.advance_c (n : Nat) : (s.advance n).c = s.c := rfl
@[simp] theorem State.advance_d (n : Nat) : (s.advance n).d = s.d := rfl
@[simp] theorem State.advance_e (n : Nat) : (s.advance n).e = s.e := rfl
@[simp] theorem State.advance_h (n : Nat) : (s.advance n).h = s.h := rfl
@[simp] theorem State.advance_l (n : Nat) : (s.advance n).l = s.l := rfl
@[simp] theorem State.advance_a' (n : Nat) : (s.advance n).a' = s.a' := rfl
@[simp] theorem State.advance_f' (n : Nat) : (s.advance n).f' = s.f' := rfl
@[simp] theorem State.advance_b' (n : Nat) : (s.advance n).b' = s.b' := rfl
@[simp] theorem State.advance_c' (n : Nat) : (s.advance n).c' = s.c' := rfl
@[simp] theorem State.advance_d' (n : Nat) : (s.advance n).d' = s.d' := rfl
@[simp] theorem State.advance_e' (n : Nat) : (s.advance n).e' = s.e' := rfl
@[simp] theorem State.advance_h' (n : Nat) : (s.advance n).h' = s.h' := rfl
@[simp] theorem State.advance_l' (n : Nat) : (s.advance n).l' = s.l' := rfl
@[simp] theorem State.advance_ixh (n : Nat) : (s.advance n).ixh = s.ixh := rfl
@[simp] theorem State.advance_ixl (n : Nat) : (s.advance n).ixl = s.ixl := rfl
@[simp] theorem State.advance_iyh (n : Nat) : (s.advance n).iyh = s.iyh := rfl
@[simp] theorem State.advance_iyl (n : Nat) : (s.advance n).iyl = s.iyl := rfl
@[simp] theorem State.advance_sp (n : Nat) : (s.advance n).sp = s.sp := rfl
@[simp] theorem State.advance_i (n : Nat) : (s.advance n).i = s.i := rfl
@[simp] theorem State.advance_r (n : Nat) : (s.advance n).r = s.r := rfl
@[simp] theorem State.advance_iff1 (n : Nat) : (s.advance n).iff1 = s.iff1 := rfl
@[simp] theorem State.advance_iff2 (n : Nat) : (s.advance n).iff2 = s.iff2 := rfl
@[simp] theorem State.advance_im (n : Nat) : (s.advance n).im = s.im := rfl
@[simp] theorem State.advance_status (n : Nat) : (s.advance n).status = s.status := rfl
@[simp] theorem State.advance_mem (n : Nat) : (s.advance n).mem = s.mem := rfl
@[simp] theorem State.advance_ports (n : Nat) : (s.advance n).ports = s.ports := rfl
@[simp] theorem State.advance_draws (n : Nat) : (s.advance n).draws = s.draws := rfl
@[simp] theorem State.advance_params (n : Nat) : (s.advance n).params = s.params := rfl
@[simp] theorem State.advance_pc (n : Nat) : (s.advance n).pc = s.pc + BitVec.ofNat 16 n := rfl

/-! ### `updateR` -/

@[simp] theorem State.updateR_a (n : Nat) : (s.updateR n).a = s.a := by unfold State.updateR; split <;> rfl
@[simp] theorem State.updateR_f (n : Nat) : (s.updateR n).f = s.f := by unfold State.updateR; split <;> rfl
@[simp] theorem State.updateR_b (n : Nat) : (s.updateR n).b = s.b := by unfold State.updateR; split <;> rfl
@[simp] theorem State.updateR_c (n : Nat) : (s.updateR n).c = s.c := by unfold State.updateR; split <;> rfl
@[simp] theorem State.updateR_d (n : Nat) : (s.updateR n).d = s.d := by unfold State.updateR; split <;> rfl
@[simp] theorem State.updateR_e (n : Nat) : (s.updateR n).e = s.e := by unfold State.updateR; split <;> rfl
@[simp] theorem State.updateR_h (n : Nat) : (s.updateR n).h = s.h := by unfold State.updateR; split <;> rfl
@[simp] theorem State.updateR_l (n : Nat) : (s.updateR n).l = s.l := by unfold State.updateR; split <;> rfl
@[simp] theorem State.updateR_a' (n : Nat) : (s.updateR n).a' = s.a' := by unfold State.updateR; split <;> rfl
@[simp] theorem State.updateR_f' (n : Nat) : (s.updateR n).f' = s.f' := by unfold State.updateR; split <;> rfl
@[simp] theorem State.updateR_b' (n : Nat) : (s.updateR n).b' = s.b' := by unfold State.updateR; split <;> rfl
@[simp] theorem State.updateR_c' (n : Nat) : (s.updateR n).c' = s.c' := by unfold State.updateR; split <;> rfl
@[simp] theorem State.updateR_d' (n : Nat) : (s.updateR n).d' = s.d' := by unfold State.updateR; split <;> rfl
@[simp] theorem State.updateR_e' (n : Nat) : (s.updateR n).e' = s.e' := by unfold State.updateR; split <;> rfl
@[simp] theorem State.updateR_h' (n : Nat) : (s.updateR n).h' = s.h' := by unfold State.updateR; split <;> rfl
@[simp] theorem State.updateR_l' (n : Nat) : (s.updateR n).l' = s.l' := by unfold State.updateR; split <;> rfl
@[simp] theorem State.updateR_ixh (n : Nat) : (s.updateR n).ixh = s.ixh := by unfold State.updateR; split <;> rfl
@[simp] theorem State.updateR_ixl (n : Nat) : (s.updateR n).ixl = s.ixl := by unfold State.updateR; split <;> rfl
@[simp] theorem State.updateR_iyh (n : Nat) : (s.updateR n).iyh = s.iyh := by unfold State.updateR; split <;> rfl
@[simp] theorem State.updateR_iyl (n : Nat) : (s.updateR n).iyl = s.iyl := by unfold State.updateR; split <;> rfl
@[simp] theorem State.updateR_sp (n : Nat) : (s.updateR n).sp = s.sp := by unfold State.updateR; split <;> rfl
@[simp] theorem State.updateR_pc (n : Nat) : (s.updateR n).pc = s.pc := by unfold State.updateR; split <;> rfl
@[simp] theorem State.updateR_i (n : Nat) : (s.updateR n).i = s.i := by unfold State.updateR; split <;> rfl
@[simp] theorem State.updateR_iff1 (n : Nat) : (s.updateR n).iff1 = s.iff1 := by unfold State.updateR; split <;> rfl
@[simp] theorem State.updateR_iff2 (n : Nat) : (s.updateR n).iff2 = s.iff2 := by unfold State.updateR; split <;> rfl
@[simp] theorem State.updateR_im (n : Nat) : (s.updateR n).im = s.im := by unfold State.updateR; split <;> rfl
@[simp] theorem State.updateR_status (n : Nat) : (s.updateR n).status = s.status := by unfold State.updateR; split <;> rfl
@[simp] theorem State.updateR_mem (n : Nat) : (s.updateR n).mem = s.mem := by unfold State.updateR; split <;> rfl
@[simp] theorem State.updateR_ports (n : Nat) : (s.updateR n).ports = s.ports := by unfold State.updateR; split <;> rfl
@[simp] theorem State.updateR_draws (n : Nat) : (s.updateR n).draws = s.draws := by unfold State.updateR; split <;> rfl
@[simp] theorem State.updateR_params (n : Nat) : (s.updateR n).params = s.params := by unfold State.updateR; split <;> rfl

/-! ### `tookDraws` -/

@[simp] theorem State.tookDraws_a (n : Nat) : (s.tookDraws n).a = s.a := by unfold State.tookDraws; split <;> rfl
@[simp] theorem State.tookDraws_f (n : Nat) : (s.tookDraws n).f = s.f := by unfold State.tookDraws; split <;> rfl
@[simp] theorem State.tookDraws_b (n : Nat) : (s.tookDraws n).b = s.b := by unfold State.tookDraws; split <;> rfl
@[simp] theorem State.tookDraws_c (n : Nat) : (s.tookDraws n).c = s.c := by unfold State.tookDraws; split <;> rfl
@[simp] theorem State.tookDraws_d (n : Nat) : (s.tookDraws n).d = s.d := by unfold State.tookDraws; split <;> rfl
@[simp] theorem State.tookDraws_e (n : Nat) : (s.tookDraws n).e = s.e := by unfold State.tookDraws; split <;> rfl
@[simp] theorem State.tookDraws_h (n : Nat) : (s.tookDraws n).h = s.h := by unfold State.tookDraws; split <;> rfl
@[simp] theorem State.tookDraws_l (n : Nat) : (s.tookDraws n).l = s.l := by unfold State.tookDraws; split <;> rfl
@[simp] theorem State.tookDraws_a' (n : Nat) : (s.tookDraws n).a' = s.a' := by unfold State.tookDraws; split <;> rfl
@[simp] theorem State.tookDraws_f' (n : Nat) : (s.tookDraws n).f' = s.f' := by unfold State.tookDraws; split <;> rfl
@[simp] theorem State.tookDraws_b' (n : Nat) : (s.tookDraws n).b' = s.b' := by unfold State.tookDraws; split <;> rfl
@[simp] theorem State.tookDraws_c' (n : Nat) : (s.tookDraws n).c' = s.c' := by unfold State.tookDraws; split <;> rfl
@[simp] theorem State.tookDraws_d' (n : Nat) : (s.tookDraws n).d' = s.d' := by unfold State.tookDraws; split <;> rfl
@[simp] theorem State.tookDraws_e' (n : Nat) : (s.tookDraws n).e' = s.e' := by unfold State.tookDraws; split <;> rfl
@[simp] theorem State.tookDraws_h' (n : Nat) : (s.tookDraws n).h' = s.h' := by unfold State.tookDraws; split <;> rfl
@[simp] theorem State.tookDraws_l' (n : Nat) : (s.tookDraws n).l' = s.l' := by unfold State.tookDraws; split <;> rfl
@[simp] theorem State.tookDraws_ixh (n : Nat) : (s.tookDraws n).ixh = s.ixh := by unfold State.tookDraws; split <;> rfl
@[simp] theorem State.tookDraws_ixl (n : Nat) : (s.tookDraws n).ixl = s.ixl := by unfold State.tookDraws; split <;> rfl
@[simp] theorem State.tookDraws_iyh (n : Nat) : (s.tookDraws n).iyh = s.iyh := by unfold State.tookDraws; split <;> rfl
@[simp] theorem State.tookDraws_iyl (n : Nat) : (s.tookDraws n).iyl = s.iyl := by unfold State.tookDraws; split <;> rfl
@[simp] theorem State.tookDraws_sp (n : Nat) : (s.tookDraws n).sp = s.sp := by unfold State.tookDraws; split <;> rfl
@[simp] theorem State.tookDraws_pc (n : Nat) : (s.tookDraws n).pc = s.pc := by unfold State.tookDraws; split <;> rfl
@[simp] theorem State.tookDraws_i (n : Nat) : (s.tookDraws n).i = s.i := by unfold State.tookDraws; split <;> rfl
@[simp] theorem State.tookDraws_r (n : Nat) : (s.tookDraws n).r = s.r := by unfold State.tookDraws; split <;> rfl
@[simp] theorem State.tookDraws_iff1 (n : Nat) : (s.tookDraws n).iff1 = s.iff1 := by unfold State.tookDraws; split <;> rfl
@[simp] theorem State.tookDraws_iff2 (n : Nat) : (s.tookDraws n).iff2 = s.iff2 := by unfold State.tookDraws; split <;> rfl
@[simp] theorem State.tookDraws_im (n : Nat) : (s.tookDraws n).im = s.im := by unfold State.tookDraws; split <;> rfl
@[simp] theorem State.tookDraws_status (n : Nat) : (s.tookDraws n).status = s.status := by unfold State.tookDraws; split <;> rfl
@[simp] theorem State.tookDraws_mem (n : Nat) : (s.tookDraws n).mem = s.mem := by unfold State.tookDraws; split <;> rfl
@[simp] theorem State.tookDraws_ports (n : Nat) : (s.tookDraws n).ports = s.ports := by unfold State.tookDraws; split <;> rfl
@[simp] theorem State.tookDraws_params (n : Nat) : (s.tookDraws n).params = s.params := by unfold State.tookDraws; split <;> rfl

/-! ### Named bits and halves -/

theorem Flags.ofByte_toByte (x : Flags) : Flags.ofByte x.toByte = x := by
  obtain ⟨a, b, c, d, e, f, g, h⟩ := x
  cases a <;> cases b <;> cases c <;> cases d <;> cases e <;> cases f <;> cases g <;> cases h <;> rfl

theorem Flags.toByte_ofByte (v : Byte) : (Flags.ofByte v).toByte = v := by
  revert v; decide

@[simp] theorem State.flags_setFlags (x : Flags) : (s.setFlags x).flags = x := Flags.ofByte_toByte x

@[simp] theorem State.setFlags_flags : s.setFlags s.flags = s := by
  show { s with f := (Flags.ofByte s.f).toByte } = s
  rw [Flags.toByte_ofByte]

@[simp] theorem State.flags_setReg8 (r : Reg8) (v : Byte) : (s.setReg8 r v).flags = s.flags := by cases r <;> rfl

@[simp] theorem State.flags_storeByte (k : Word) (v : Byte) : (s.storeByte k v).flags = s.flags := rfl

@[simp] theorem highByte_joinBytes (h l : Byte) : highByte (joinBytes h l) = h := by
  unfold highByte joinBytes
  ext i hi
  simp only [BitVec.getElem_extractLsb', BitVec.getLsbD_append]
  simp [BitVec.getLsbD_eq_getElem, hi]

@[simp] theorem lowByte_joinBytes (h l : Byte) : lowByte (joinBytes h l) = l := by
  unfold lowByte joinBytes
  ext i hi
  simp only [BitVec.getElem_extractLsb', BitVec.getLsbD_append]
  simp [BitVec.getLsbD_eq_getElem, hi]

@[simp] theorem joinBytes_halves (w : Word) : joinBytes (highByte w) (lowByte w) = w := by
  unfold highByte lowByte joinBytes
  ext i hi
  rw [BitVec.getElem_append]
  split
  · simp only [BitVec.getElem_extractLsb', Nat.zero_add, BitVec.getLsbD_eq_getElem hi]
  · rename_i hlt
    simp only [BitVec.getElem_extractLsb']
    rw [show 8 + (i - 8) = i by omega, BitVec.getLsbD_eq_getElem hi]

/-! ### Registers and pairs -/

/-- Every 8-bit register reads back what was written, and no other 8-bit register changes. -/
theorem State.reg8_setReg8 (r q : Reg8) (v : Byte) : (s.setReg8 r v).reg8 q = if q = r then v else s.reg8 q := by
  cases r <;> cases q <;> rfl

@[simp] theorem State.reg8_setReg8_same (r : Reg8) (v : Byte) : (s.setReg8 r v).reg8 r = v := by cases r <;> rfl

@[simp] theorem State.pair_setPair_same (p : Pair) (v : Word) : (s.setPair p v).pair p = v := by
  cases p <;> first | exact joinBytes_halves v | rfl

/-- A pair does not see the writes of another pair. -/
theorem State.pair_setPair_ne (p q : Pair) (v : Word) (h : q ≠ p) : (s.setPair p v).pair q = s.pair q := by
  cases p <;> cases q <;> first | rfl | exact absurd rfl h

/-! ### Draws and reset -/

@[simp] theorem State.ofLaunch_draws (p : Params) (x : Launch) : (State.ofLaunch p x).draws = x.draws := rfl
@[simp] theorem State.ofLaunch_params (p : Params) (x : Launch) : (State.ofLaunch p x).params = p := rfl
@[simp] theorem State.hostReset_draws (x : Launch) : (s.hostReset x).draws = s.draws := rfl
@[simp] theorem State.hostReset_params (x : Launch) : (s.hostReset x).params = s.params := rfl
@[simp] theorem State.enterFault_draws (info : FaultInfo) : (s.enterFault info).draws = s.draws + faultDraws := rfl

/-- Under `DRAW` the draws after a reset are those the engine would have taken next, not those it took before. -/
theorem State.hostReset_undocBit (x : Launch) (k : Nat) (v : Bool) : (s.hostReset x).undocBit k v = s.undocBit k v := rfl

/-- Taking draws never turns the counter back. -/
theorem State.le_tookDraws_draws (n : Nat) : s.draws ≤ (s.tookDraws n).draws := by
  unfold State.tookDraws
  split
  · exact Nat.le_refl _
  · exact Nat.le_add_right _ _

end Sys2Proof.Machine
end

