-- ==== Sys2Proof/Laws/Ops.lean ====
section
/-! SUPPORT. For each shared operation, once, everything it can do: which accesses answer and which raise, and what an
operation that answers leaves unchanged (`Keeps`). -/

namespace Sys2Proof.Laws

open Sys2Proof.Machine

/-- What nearly every operation keeps: everything but the general registers, `F`, `SP`, `PC`, memory, the draw counter; memory
and ports stay canonical. -/
structure Keeps (s t : State) : Prop where
  params : t.params = s.params
  status : t.status = s.status
  alternates : t.a' = s.a' ∧ t.f' = s.f' ∧ t.b' = s.b' ∧ t.c' = s.c' ∧ t.d' = s.d' ∧ t.e' = s.e' ∧ t.h' = s.h' ∧ t.l' = s.l'
  i : t.i = s.i
  iff1 : t.iff1 = s.iff1
  iff2 : t.iff2 = s.iff2
  im : t.im = s.im
  memWf : s.mem.wf s.params.memSize = true → t.mem.wf t.params.memSize = true
  portsWf : s.ports.wf 256 = true → t.ports.wf 256 = true

/-- `Keeps`, and `R` and the ports unchanged. -/
def KeepsAll (s t : State) : Prop := Keeps s t ∧ t.r = s.r ∧ t.ports = s.ports

theorem Keeps.refl (s : State) : Keeps s s :=
  ⟨rfl, rfl, ⟨rfl, rfl, rfl, rfl, rfl, rfl, rfl, rfl⟩, rfl, rfl, rfl, rfl, id, id⟩

theorem Keeps.trans {s t u : State} (h : Keeps s t) (k : Keeps t u) : Keeps s u := by
  obtain ⟨p, st, ⟨a, b, c, d, e, f, g, l⟩, i, i1, i2, im, m, o⟩ := h
  obtain ⟨p', st', ⟨a', b', c', d', e', f', g', l'⟩, i', i1', i2', im', m', o'⟩ := k
  exact ⟨p'.trans p, st'.trans st, ⟨a'.trans a, b'.trans b, c'.trans c, d'.trans d, e'.trans e, f'.trans f, g'.trans g,
    l'.trans l⟩, i'.trans i, i1'.trans i1, i2'.trans i2, im'.trans im, m' ∘ m, o' ∘ o⟩

theorem KeepsAll.refl (s : State) : KeepsAll s s := ⟨Keeps.refl s, rfl, rfl⟩

theorem KeepsAll.trans {s t u : State} (h : KeepsAll s t) (k : KeepsAll t u) : KeepsAll s u :=
  ⟨h.1.trans k.1, k.2.1.trans h.2.1, k.2.2.trans h.2.2⟩

/-- What changes only registers, `F`, `SP`, `PC` and the draw counter keeps all the rest. -/
theorem keepsAll_of_eq {s t : State}
    (h : t = { s with
      a := t.a, f := t.f, b := t.b, c := t.c, d := t.d, e := t.e, h := t.h, l := t.l, ixh := t.ixh, ixl := t.ixl,
      iyh := t.iyh, iyl := t.iyl, sp := t.sp, pc := t.pc, draws := t.draws }) : KeepsAll s t := by
  rw [h]
  exact ⟨⟨rfl, rfl, ⟨rfl, rfl, rfl, rfl, rfl, rfl, rfl, rfl⟩, rfl, rfl, rfl, rfl, id, id⟩, rfl, rfl⟩

theorem keepsAll_setReg8 (s : State) (r : Reg8) (v : Byte) : KeepsAll s (s.setReg8 r v) := by
  cases r <;> exact keepsAll_of_eq rfl

theorem keepsAll_setPair (s : State) (p : Pair) (v : Word) : KeepsAll s (s.setPair p v) := by
  cases p <;> exact keepsAll_of_eq rfl

theorem keepsAll_setFlags (s : State) (x : Flags) : KeepsAll s (s.setFlags x) := keepsAll_of_eq rfl

theorem keepsAll_copyTo (s : State) (r : Option Reg8) (v : Byte) : KeepsAll s (s.copyTo r v) := by
  cases r
  · exact KeepsAll.refl s
  · exact keepsAll_setReg8 s _ v

theorem keepsAll_jump (s : State) (a : Word) : KeepsAll s (s.jump a) := keepsAll_of_eq rfl

theorem keepsAll_tookDraws (s : State) (n : Nat) : KeepsAll s (s.tookDraws n) := by
  unfold State.tookDraws
  split <;> exact keepsAll_of_eq rfl

theorem keepsAll_storeByte (s : State) (a : Word) (v : Byte) (h : s.inMem a) : KeepsAll s (s.storeByte a v) :=
  ⟨⟨rfl, rfl, ⟨rfl, rfl, rfl, rfl, rfl, rfl, rfl, rfl⟩, rfl, rfl, rfl, rfl, fun hw => Memory.write_wf v hw h, id⟩, rfl, rfl⟩

theorem keeps_portWrite (s : State) (p v : Byte) : Keeps s (s.portWrite p v) :=
  ⟨rfl, rfl, ⟨rfl, rfl, rfl, rfl, rfl, rfl, rfl, rfl⟩, rfl, rfl, rfl, rfl, id, fun hw => Memory.write_wf v hw p.isLt⟩

theorem keeps_updateR (s : State) (n : Nat) : Keeps s (s.updateR n) := by
  unfold State.updateR
  split
  · exact Keeps.refl s
  · exact ⟨rfl, rfl, ⟨rfl, rfl, rfl, rfl, rfl, rfl, rfl, rfl⟩, rfl, rfl, rfl, rfl, id, id⟩

/-- Under `FROZEN` nothing counts fetches (R102). -/
theorem updateR_frozen (s : State) (n : Nat) (h : s.params.rMode = .frozen) : s.updateR n = s := by
  unfold State.updateR
  rw [h]

/-! ## Accesses -/

/-- A computation that answers: each of its parts answers. -/
theorem bind_ok {ε α β : Type} {x : Except ε α} {f : α → Except ε β} {t : β} (h : (x >>= f) = .ok t) :
    ∃ a, x = .ok a ∧ f a = .ok t := by
  cases x with
  | error e => cases h
  | ok a => exact ⟨a, rfl, h⟩

theorem memRead_present {s : State} {a : Word} (h : s.inMem a) : s.memRead a = .ok (s.mem.read a.toNat) := if_pos h

theorem memRead_missing {s : State} {a : Word} (h : ¬ s.inMem a) : s.memRead a = .error ⟨.mem, a.toNat⟩ := if_neg h

theorem memWrite_present {s : State} {a : Word} {v : Byte} (h : s.inMem a) : s.memWrite a v = .ok (s.storeByte a v) :=
  if_pos h

theorem memWrite_missing {s : State} {a : Word} {v : Byte} (h : ¬ s.inMem a) :
    s.memWrite a v = .error ⟨.mem, a.toNat⟩ := if_neg h

theorem resolve_wrap (s : State) (h : s.params.addrWrap = .wrap) (x : Int) : s.resolve x = .ok (BitVec.ofInt 16 x) := by
  unfold State.resolve
  rw [h]

theorem resolve_inside (s : State) {x : Int} (h1 : 0 ≤ x) (h2 : x ≤ 65535) : s.resolve x = .ok (BitVec.ofInt 16 x) := by
  unfold State.resolve
  cases s.params.addrWrap
  · rfl
  · exact if_pos ⟨h1, h2⟩

theorem resolve_outside (s : State) (h : s.params.addrWrap = .fault) {x : Int} (hx : x < 0 ∨ 65535 < x) :
    s.resolve x = .error ⟨.mem, x⟩ := by
  unfold State.resolve
  rw [h]
  exact if_neg (by omega)

/-- A byte write that answers. -/
theorem memWrite_keeps {s t : State} {a : Word} {v : Byte} (h : s.memWrite a v = .ok t) : KeepsAll s t := by
  unfold State.memWrite at h
  split at h
  · cases h; exact keepsAll_storeByte s a v ‹_›
  · cases h

/-- A word write: the low byte's address missing, the sum refused, the high byte's address missing, or both bytes stored. -/
theorem memWrite16_cases (s : State) (a v : Word) :
    (¬ s.inMem a → s.memWrite16 a v = .error ⟨.mem, a.toNat⟩) ∧
    (∀ e, s.inMem a → s.addrNext a = .error e → s.memWrite16 a v = .error e) ∧
    (∀ b, s.inMem a → s.addrNext a = .ok b → ¬ s.inMem b → s.memWrite16 a v = .error ⟨.mem, b.toNat⟩) ∧
    (∀ b, s.inMem a → s.addrNext a = .ok b → s.inMem b →
      s.memWrite16 a v = .ok ((s.storeByte a (lowByte v)).storeByte b (highByte v))) := by
  have key : s.memWrite16 a v = s.memWrite a (lowByte v) >>= fun s1 => s1.addrNext a >>= fun b =>
    s1.memWrite b (highByte v) := rfl
  rw [key]
  refine ⟨fun hm => by rw [memWrite_missing hm]; rfl, fun e hm he => ?_, fun b hm hb hm' => ?_, fun b hm hb hm' => ?_⟩ <;>
    rw [memWrite_present hm] <;> show (s.addrNext a >>= _) = _
  · rw [he]; rfl
  · rw [hb]; exact memWrite_missing (s := s.storeByte a (lowByte v)) hm'
  · rw [hb]; exact memWrite_present (s := s.storeByte a (lowByte v)) hm'

theorem memWrite16_keeps {s t : State} {a v : Word} (h : s.memWrite16 a v = .ok t) : KeepsAll s t := by
  obtain ⟨s1, h1, h⟩ := bind_ok h
  obtain ⟨b, _, h⟩ := bind_ok h
  exact (memWrite_keeps h1).trans (memWrite_keeps h)

/-- A push: the upper cell missing, the lower cell missing, or the word stored below `SP`. -/
theorem push16_cases (s : State) (v : Word) :
    (¬ s.inMem (s.sp - 1) → s.push16 v = .error ⟨.mem, (s.sp - 1).toNat⟩) ∧
    (s.inMem (s.sp - 1) → ¬ s.inMem (s.sp - 2) → s.push16 v = .error ⟨.mem, (s.sp - 2).toNat⟩) ∧
    (s.inMem (s.sp - 1) → s.inMem (s.sp - 2) →
      s.push16 v = .ok { (s.storeByte (s.sp - 1) (highByte v)).storeByte (s.sp - 2) (lowByte v) with sp := s.sp - 2 }) := by
  have e : s.sp - 1 - 1 = s.sp - 2 := by rw [BitVec.sub_sub]; rfl
  have key : s.push16 v = State.memWrite { s with sp := s.sp - 1 } (s.sp - 1) (highByte v) >>= fun s2 =>
    State.memWrite { s2 with sp := s2.sp - 1 } (s2.sp - 1) (lowByte v) := rfl
  rw [key]
  refine ⟨fun h1 => by rw [memWrite_missing (s := { s with sp := s.sp - 1 }) h1]; rfl, fun h1 h2 => ?_, fun h1 h2 => ?_⟩ <;>
    rw [memWrite_present (s := { s with sp := s.sp - 1 }) h1] <;>
    show State.memWrite { s.storeByte (s.sp - 1) (highByte v) with sp := s.sp - 1 - 1 } (s.sp - 1 - 1) _ = _ <;> rw [e]
  · exact memWrite_missing h2
  · exact memWrite_present h2

theorem push16_keeps {s t : State} {v : Word} (h : s.push16 v = .ok t) : KeepsAll s t := by
  obtain ⟨s1, h1, h⟩ := bind_ok h
  exact (show KeepsAll s { s with sp := s.sp - 1 } from keepsAll_of_eq rfl).trans ((memWrite_keeps h1).trans
    ((show KeepsAll s1 { s1 with sp := s1.sp - 1 } from keepsAll_of_eq rfl).trans (memWrite_keeps h)))

/-- A pop: the lower cell missing, the upper cell missing, or the word and `SP` above it. -/
theorem pop16_cases (s : State) :
    (¬ s.inMem s.sp → s.pop16 = .error ⟨.mem, s.sp.toNat⟩) ∧
    (s.inMem s.sp → ¬ s.inMem (s.sp + 1) → s.pop16 = .error ⟨.mem, (s.sp + 1).toNat⟩) ∧
    (s.inMem s.sp → s.inMem (s.sp + 1) →
      s.pop16 = .ok (joinBytes (s.mem.read (s.sp + 1).toNat) (s.mem.read s.sp.toNat), { s with sp := s.sp + 2 })) := by
  have e : s.sp + 1 + 1 = s.sp + 2 := by rw [BitVec.add_assoc]; rfl
  have key : s.pop16 = s.memRead s.sp >>= fun low => State.memRead { s with sp := s.sp + 1 } (s.sp + 1) >>= fun high =>
    .ok (joinBytes high low, { s with sp := s.sp + 1 + 1 }) := rfl
  rw [key]
  refine ⟨fun h1 => by rw [memRead_missing h1]; rfl, fun h1 h2 => ?_, fun h1 h2 => ?_⟩ <;> rw [memRead_present h1] <;>
    show (State.memRead { s with sp := s.sp + 1 } (s.sp + 1) >>= _) = _
  · rw [memRead_missing (s := { s with sp := s.sp + 1 }) h2]; rfl
  · rw [memRead_present (s := { s with sp := s.sp + 1 }) h2, e]; rfl

theorem pop16_keeps {s : State} {o : Word × State} (h : s.pop16 = .ok o) : KeepsAll s o.2 := by
  obtain ⟨_, _, h⟩ := bind_ok h
  obtain ⟨_, _, h⟩ := bind_ok h
  cases h
  exact keepsAll_of_eq rfl

/-! ## The end of an execute phase -/

/-- An execute phase ends in the state it computed or in fault entry. -/
theorem finish_cases {s t : State} {len : Nat} {body : Except AccessFault State} (h : s.finish len body = .next t) :
    body = .ok t ∨
    ∃ e, body = .error e ∧ t = s.enterFault (.outOfRange e.space e.addr (s.pc - BitVec.ofNat 16 len)) := by
  cases body with
  | ok u => cases h; exact .inl rfl
  | error e => cases h; exact .inr ⟨e, rfl, rfl⟩

/-- Fault entry keeps the parameters and leaves canonical memories. -/
theorem enterFault_keeps (s : State) (info : FaultInfo) :
    (s.enterFault info).params = s.params ∧ (s.enterFault info).mem.wf s.params.memSize = true ∧
    (s.enterFault info).ports.wf 256 = true ∧ (s.enterFault info).im ≠ 3 := by
  refine ⟨rfl, Memory.ofCells_wf .., Memory.ofCells_wf .., ?_⟩
  show BitVec.ofNat 2 _ ≠ 3
  intro e
  have e' := congrArg BitVec.toNat e
  have h3 : (Config.freeWord (s.draws + 2)).toNat % 3 < 3 := Nat.mod_lt _ (by decide)
  rw [BitVec.toNat_ofNat, Nat.mod_eq_of_lt (by omega)] at e'
  change _ = 3 at e'
  omega

/-! ## Block steps and repeats -/

theorem ldStep_keeps {dir : Dir} {s t : State} (h : ldStep dir s = .ok t) : KeepsAll s t := by
  obtain ⟨v, _, h⟩ := bind_ok h
  obtain ⟨s1, h1, h⟩ := bind_ok h
  cases h
  exact (memWrite_keeps h1).trans ((keepsAll_setPair _ _ _).trans ((keepsAll_setPair _ _ _).trans
    ((keepsAll_setPair _ _ _).trans ((keepsAll_setFlags _ _).trans (keepsAll_tookDraws _ _)))))

theorem cpStep_keeps {dir : Dir} {s t : State} (h : cpStep dir s = .ok t) : KeepsAll s t := by
  obtain ⟨v, _, h⟩ := bind_ok h
  cases h
  exact (keepsAll_setPair _ _ _).trans ((keepsAll_setPair _ _ _).trans ((keepsAll_setFlags _ _).trans
    (keepsAll_tookDraws _ _)))

theorem ioFlags_keeps (v : Byte) (j : Nat) (s : State) : KeepsAll s (ioFlags v j s) :=
  (keepsAll_setFlags _ _).trans (keepsAll_tookDraws _ _)

theorem inStep_keeps {dir : Dir} {s t : State} (h : inStep dir s = .ok t) : KeepsAll s t := by
  obtain ⟨s1, h1, h⟩ := bind_ok h
  cases h
  exact (memWrite_keeps h1).trans ((keepsAll_setPair _ _ _).trans ((keepsAll_setReg8 _ _ _).trans (ioFlags_keeps _ _ _)))

theorem outStep_keeps {dir : Dir} {s t : State} (h : outStep dir s = .ok t) : Keeps s t ∧ t.r = s.r := by
  obtain ⟨v, _, h⟩ := bind_ok h
  cases h
  have after {u w : State} (h : Keeps u w ∧ w.r = u.r) (k : Keeps s u ∧ u.r = s.r) : Keeps s w ∧ w.r = s.r :=
    ⟨k.1.trans h.1, h.2.trans k.2⟩
  have all {u w : State} (h : KeepsAll u w) : Keeps u w ∧ w.r = u.r := ⟨h.1, h.2.1⟩
  exact after (all (ioFlags_keeps _ _ _)) (after (all (keepsAll_setPair _ _ _))
    (after ⟨keeps_portWrite _ _ _, rfl⟩ (all (keepsAll_setReg8 _ _ _))))

/-- A relation that the body keeps, and that the refresh between iterations keeps, is kept by the whole repeat. -/
theorem repeatBlock_keeps {body : State → Except AccessFault State} {again : State → Bool} {P : State → State → Prop}
    (refl : ∀ s, P s s) (trans : ∀ {s t u}, P s t → P t u → P s u) (step : ∀ {s t}, body s = .ok t → P s t)
    (refresh : ∀ s, P s (s.updateR 2)) (fuel : Nat) :
    ∀ {s t : State}, repeatBlock body again fuel s = .ok t → P s t := by
  induction fuel with
  | zero => intro s t h; cases h; exact refl s
  | succ n ih =>
    intro s t h
    obtain ⟨u, h1, h⟩ := bind_ok h
    split at h
    · exact trans (step h1) (trans (refresh u) (ih h))
    · cases h; exact step h1

/-- The repeat unrolled, all iterations answering: `enter k` is the state before iteration `k`, `leave (k + 1)` the state
after it, and the `n`-th is the last. -/
theorem repeatBlock_answers {body : State → Except AccessFault State} {again : State → Bool} (enter leave : Nat → State)
    (n : Nat) (hbody : ∀ k, k < n → body (enter k) = .ok (leave (k + 1)))
    (hagain : ∀ k, 1 ≤ k → k < n → again (leave k) = true) (hnext : ∀ k, 1 ≤ k → k < n → (leave k).updateR 2 = enter k)
    (hlast : again (leave n) = false) :
    ∀ m j fuel, n - j = m + 1 → n - j ≤ fuel → repeatBlock body again fuel (enter j) = .ok (leave n) := by
  intro m
  induction m with
  | zero =>
    intro j fuel h1 h2
    obtain ⟨f, rfl⟩ : ∃ f, fuel = f + 1 := ⟨fuel - 1, by omega⟩
    have hj : j + 1 = n := by omega
    unfold repeatBlock
    simp only [hbody j (by omega), bind, Except.bind, hj, hlast]
    rfl
  | succ m ih =>
    intro j fuel h1 h2
    obtain ⟨f, rfl⟩ : ∃ f, fuel = f + 1 := ⟨fuel - 1, by omega⟩
    unfold repeatBlock
    simp only [hbody j (by omega), bind, Except.bind, hagain (j + 1) (by omega) (by omega),
      hnext (j + 1) (by omega) (by omega)]
    exact ih (j + 1) f (by omega) (by omega)

/-- The repeat unrolled, iteration `n` raising. -/
theorem repeatBlock_raises {body : State → Except AccessFault State} {again : State → Bool} (enter leave : Nat → State)
    (n : Nat) (e : AccessFault) (hbody : ∀ k, k < n → body (enter k) = .ok (leave (k + 1)))
    (hagain : ∀ k, 1 ≤ k → k ≤ n → again (leave k) = true) (hnext : ∀ k, 1 ≤ k → k ≤ n → (leave k).updateR 2 = enter k)
    (hraise : body (enter n) = .error e) :
    ∀ m j fuel, j ≤ n → n - j = m → n - j < fuel → repeatBlock body again fuel (enter j) = .error e := by
  intro m
  induction m with
  | zero =>
    intro j fuel h0 h1 h2
    obtain ⟨f, rfl⟩ : ∃ f, fuel = f + 1 := ⟨fuel - 1, by omega⟩
    obtain rfl : j = n := by omega
    unfold repeatBlock
    simp only [hraise, bind, Except.bind]
  | succ m ih =>
    intro j fuel h0 h1 h2
    obtain ⟨f, rfl⟩ : ∃ f, fuel = f + 1 := ⟨fuel - 1, by omega⟩
    unfold repeatBlock
    simp only [hbody j (by omega), bind, Except.bind, hagain (j + 1) (by omega) (by omega),
      hnext (j + 1) (by omega) (by omega)]
    exact ih (j + 1) f (by omega) (by omega) (by omega)

/-! ## Fetching -/

/-- Fetching reads bytes that are all present, then goes on behind them (R96). -/
theorem bytesFrom_append {s : State} {code : List Byte} : ∀ {a : Word} {n : Nat}, code.length ≤ n →
    (∀ k (h : k < code.length), s.inMem (a + BitVec.ofNat 16 k) ∧
      s.mem.read (a + BitVec.ofNat 16 k).toNat = code[k]) →
    s.bytesFrom n a = code ++ s.bytesFrom (n - code.length) (a + BitVec.ofNat 16 code.length) := by
  have next : ∀ (a : Word) (k : Nat), a + 1 + BitVec.ofNat 16 k = a + BitVec.ofNat 16 (k + 1) := by
    intro a k
    rw [BitVec.add_assoc]
    congr 1
    apply BitVec.eq_of_toNat_eq
    simp
    omega
  induction code with
  | nil => intro a n _ _; simp
  | cons b rest ih =>
    intro a n hn h
    cases n with
    | zero => simp at hn
    | succ n =>
      obtain ⟨h1, h2⟩ := h 0 (by simp)
      simp only [BitVec.add_zero, List.getElem_cons_zero] at h1 h2
      rw [State.bytesFrom, if_pos h1, h2, ih (a := a + 1) (n := n) (by simpa using hn) ?_]
      · rw [next]; simp only [List.length_cons, Nat.add_sub_add_right, List.cons_append]
      · intro k hk
        have := h (k + 1) (by simpa using hk)
        rw [next]
        simpa using this

end Sys2Proof.Laws
end

