-- ==== Sys2Proof/Tests/Slice0.lean ====
section
/-! SUPPORT. Tests, each expected result taken from the spec: ill-formed terms refused, every row of the opcode table decoded
from its bytes, the vectors of 95_test_vectors.md as single steps, the fault and execute-one vectors; then, for every
statement with hypotheses, states and operands that meet them. -/

namespace Sys2Proof.Tests

open Sys2Proof.Machine Sys2Proof.Claims

/-! ## Well-formedness: each check with terms it refuses -/

theorem test_retn_1_is_no_instruction : ¬ WellFormed (.retn 1) ∧ WellFormed (.retn 0) := by decide

theorem test_im_0_has_two_encodings : ¬ WellFormed (.im_0 1) ∧ WellFormed (.im_0 4) := by decide

theorem test_im_0_1_has_two_encodings : ¬ WellFormed (.im_0_1 0) ∧ WellFormed (.im_0_1 5) := by decide

theorem test_im_1_has_two_encodings : ¬ WellFormed (.im_1 0) ∧ WellFormed (.im_1 6) := by decide

theorem test_im_2_has_two_encodings : ¬ WellFormed (.im_2 0) ∧ WellFormed (.im_2 7) := by decide

/-! ## Decoding: the bytes of every row of spec/opcode_table.json, for every value of its operands -/

theorem test_decode_loadPairImm : ∀ l h, ∀ x ∈ Rows.loadPairImm l h, decode x.1 = .ok (x.2.1, []) := by
  intro l h
  simp only [Rows.loadPairImm, List.forall_mem_cons, List.not_mem_nil, false_implies, implies_true, and_true]
  repeat' apply And.intro
  all_goals rfl

theorem test_decode_storeReg : ∀ d l h, ∀ x ∈ Rows.storeReg d l h, decode x.1 = .ok (x.2.1, []) := by
  intro d l h
  simp only [Rows.storeReg, List.forall_mem_append, List.forall_mem_cons, List.not_mem_nil, false_implies, implies_true, and_true]
  repeat' apply And.intro
  all_goals rfl

theorem test_decode_incPair : ∀ x ∈ Rows.incPair, decode x.1 = .ok (x.2.1, []) := by
  simp only [Rows.incPair, List.forall_mem_cons, List.not_mem_nil, false_implies, implies_true, and_true]
  repeat' apply And.intro
  all_goals rfl

theorem test_decode_incReg : ∀ x ∈ Rows.incReg, decode x.1 = .ok (x.2.1, []) := by
  simp only [Rows.incReg, List.forall_mem_cons, List.not_mem_nil, false_implies, implies_true, and_true]
  repeat' apply And.intro
  all_goals rfl

theorem test_decode_decReg : ∀ x ∈ Rows.decReg, decode x.1 = .ok (x.2.1, []) := by
  simp only [Rows.decReg, List.forall_mem_cons, List.not_mem_nil, false_implies, implies_true, and_true]
  repeat' apply And.intro
  all_goals rfl

theorem test_decode_loadImm : ∀ n, ∀ x ∈ Rows.loadImm n, decode x.1 = .ok (x.2.1, []) := by
  intro n
  simp only [Rows.loadImm, List.forall_mem_cons, List.not_mem_nil, false_implies, implies_true, and_true]
  repeat' apply And.intro
  all_goals rfl

theorem test_decode_rotA : ∀ x ∈ Rows.rotA, decode x.1 = .ok (x.2.1, []) := by
  simp only [Rows.rotA, List.forall_mem_cons, List.not_mem_nil, false_implies, implies_true, and_true]
  repeat' apply And.intro
  all_goals rfl

theorem test_decode_addPair : ∀ x ∈ Rows.addPair, decode x.1 = .ok (x.2.1, []) := by
  simp only [Rows.addPair, List.forall_mem_cons, List.not_mem_nil, false_implies, implies_true, and_true]
  repeat' apply And.intro
  all_goals rfl

theorem test_decode_loadMem : ∀ d l h, ∀ x ∈ Rows.loadMem d l h, decode x.1 = .ok (x.2.1, []) := by
  intro d l h
  simp only [Rows.loadMem, List.forall_mem_append, List.forall_mem_cons, List.not_mem_nil, false_implies, implies_true, and_true]
  repeat' apply And.intro
  all_goals rfl

theorem test_decode_decPair : ∀ x ∈ Rows.decPair, decode x.1 = .ok (x.2.1, []) := by
  simp only [Rows.decPair, List.forall_mem_cons, List.not_mem_nil, false_implies, implies_true, and_true]
  repeat' apply And.intro
  all_goals rfl

theorem test_decode_jumpRelIf : ∀ e, ∀ x ∈ Rows.jumpRelIf e, decode x.1 = .ok (x.2.1, []) := by
  intro e
  simp only [Rows.jumpRelIf, List.forall_mem_cons, List.not_mem_nil, false_implies, implies_true, and_true]
  repeat' apply And.intro
  all_goals rfl

theorem test_decode_storePair : ∀ l h, ∀ x ∈ Rows.storePair l h, decode x.1 = .ok (x.2.1, []) := by
  intro l h
  simp only [Rows.storePair, List.forall_mem_cons, List.not_mem_nil, false_implies, implies_true, and_true]
  repeat' apply And.intro
  all_goals rfl

theorem test_decode_loadPairMem : ∀ l h, ∀ x ∈ Rows.loadPairMem l h, decode x.1 = .ok (x.2.1, []) := by
  intro l h
  simp only [Rows.loadPairMem, List.forall_mem_cons, List.not_mem_nil, false_implies, implies_true, and_true]
  repeat' apply And.intro
  all_goals rfl

theorem test_decode_incMem : ∀ d, ∀ x ∈ Rows.incMem d, decode x.1 = .ok (x.2.1, []) := by
  intro d
  simp only [Rows.incMem, List.forall_mem_cons, List.not_mem_nil, false_implies, implies_true, and_true]
  repeat' apply And.intro
  all_goals rfl

theorem test_decode_decMem : ∀ d, ∀ x ∈ Rows.decMem d, decode x.1 = .ok (x.2.1, []) := by
  intro d
  simp only [Rows.decMem, List.forall_mem_cons, List.not_mem_nil, false_implies, implies_true, and_true]
  repeat' apply And.intro
  all_goals rfl

theorem test_decode_storeImm : ∀ d n, ∀ x ∈ Rows.storeImm d n, decode x.1 = .ok (x.2.1, []) := by
  intro d n
  simp only [Rows.storeImm, List.forall_mem_cons, List.not_mem_nil, false_implies, implies_true, and_true]
  repeat' apply And.intro
  all_goals rfl

theorem test_decode_loadReg : ∀ x ∈ Rows.loadReg, decode x.1 = .ok (x.2.1, []) := by
  simp only [Rows.loadReg, List.forall_mem_append, List.forall_mem_cons, List.not_mem_nil, false_implies, implies_true, and_true]
  repeat' apply And.intro
  all_goals rfl

theorem test_decode_add : ∀ d n, ∀ x ∈ Rows.add d n, decode x.1 = .ok (x.2.1, []) := by
  intro d n
  simp only [Rows.add, List.forall_mem_cons, List.not_mem_nil, false_implies, implies_true, and_true]
  repeat' apply And.intro
  all_goals rfl

theorem test_decode_adc : ∀ d n, ∀ x ∈ Rows.adc d n, decode x.1 = .ok (x.2.1, []) := by
  intro d n
  simp only [Rows.adc, List.forall_mem_cons, List.not_mem_nil, false_implies, implies_true, and_true]
  repeat' apply And.intro
  all_goals rfl

theorem test_decode_sub : ∀ d n, ∀ x ∈ Rows.sub d n, decode x.1 = .ok (x.2.1, []) := by
  intro d n
  simp only [Rows.sub, List.forall_mem_cons, List.not_mem_nil, false_implies, implies_true, and_true]
  repeat' apply And.intro
  all_goals rfl

theorem test_decode_sbc : ∀ d n, ∀ x ∈ Rows.sbc d n, decode x.1 = .ok (x.2.1, []) := by
  intro d n
  simp only [Rows.sbc, List.forall_mem_cons, List.not_mem_nil, false_implies, implies_true, and_true]
  repeat' apply And.intro
  all_goals rfl

theorem test_decode_and : ∀ d n, ∀ x ∈ Rows.and d n, decode x.1 = .ok (x.2.1, []) := by
  intro d n
  simp only [Rows.and, List.forall_mem_cons, List.not_mem_nil, false_implies, implies_true, and_true]
  repeat' apply And.intro
  all_goals rfl

theorem test_decode_xor : ∀ d n, ∀ x ∈ Rows.xor d n, decode x.1 = .ok (x.2.1, []) := by
  intro d n
  simp only [Rows.xor, List.forall_mem_cons, List.not_mem_nil, false_implies, implies_true, and_true]
  repeat' apply And.intro
  all_goals rfl

theorem test_decode_or : ∀ d n, ∀ x ∈ Rows.or d n, decode x.1 = .ok (x.2.1, []) := by
  intro d n
  simp only [Rows.or, List.forall_mem_cons, List.not_mem_nil, false_implies, implies_true, and_true]
  repeat' apply And.intro
  all_goals rfl

theorem test_decode_cp : ∀ d n, ∀ x ∈ Rows.cp d n, decode x.1 = .ok (x.2.1, []) := by
  intro d n
  simp only [Rows.cp, List.forall_mem_cons, List.not_mem_nil, false_implies, implies_true, and_true]
  repeat' apply And.intro
  all_goals rfl

theorem test_decode_retIf : ∀ x ∈ Rows.retIf, decode x.1 = .ok (x.2.1, []) := by
  simp only [Rows.retIf, List.forall_mem_cons, List.not_mem_nil, false_implies, implies_true, and_true]
  repeat' apply And.intro
  all_goals rfl

theorem test_decode_pop : ∀ x ∈ Rows.pop, decode x.1 = .ok (x.2.1, []) := by
  simp only [Rows.pop, List.forall_mem_cons, List.not_mem_nil, false_implies, implies_true, and_true]
  repeat' apply And.intro
  all_goals rfl

theorem test_decode_jumpIf : ∀ l h, ∀ x ∈ Rows.jumpIf l h, decode x.1 = .ok (x.2.1, []) := by
  intro l h
  simp only [Rows.jumpIf, List.forall_mem_cons, List.not_mem_nil, false_implies, implies_true, and_true]
  repeat' apply And.intro
  all_goals rfl

theorem test_decode_callIf : ∀ l h, ∀ x ∈ Rows.callIf l h, decode x.1 = .ok (x.2.1, []) := by
  intro l h
  simp only [Rows.callIf, List.forall_mem_cons, List.not_mem_nil, false_implies, implies_true, and_true]
  repeat' apply And.intro
  all_goals rfl

theorem test_decode_push : ∀ x ∈ Rows.push, decode x.1 = .ok (x.2.1, []) := by
  simp only [Rows.push, List.forall_mem_cons, List.not_mem_nil, false_implies, implies_true, and_true]
  repeat' apply And.intro
  all_goals rfl

theorem test_decode_rst : ∀ x ∈ Rows.rst, decode x.1 = .ok (x.2.1, []) := by
  simp only [Rows.rst, List.forall_mem_cons, List.not_mem_nil, false_implies, implies_true, and_true]
  repeat' apply And.intro
  all_goals rfl

theorem test_decode_exTop : ∀ x ∈ Rows.exTop, decode x.1 = .ok (x.2.1, []) := by
  simp only [Rows.exTop, List.forall_mem_cons, List.not_mem_nil, false_implies, implies_true, and_true]
  repeat' apply And.intro
  all_goals rfl

theorem test_decode_jumpPair : ∀ x ∈ Rows.jumpPair, decode x.1 = .ok (x.2.1, []) := by
  simp only [Rows.jumpPair, List.forall_mem_cons, List.not_mem_nil, false_implies, implies_true, and_true]
  repeat' apply And.intro
  all_goals rfl

theorem test_decode_loadSp : ∀ x ∈ Rows.loadSp, decode x.1 = .ok (x.2.1, []) := by
  simp only [Rows.loadSp, List.forall_mem_cons, List.not_mem_nil, false_implies, implies_true, and_true]
  repeat' apply And.intro
  all_goals rfl

theorem test_decode_rotReg : ∀ x ∈ Rows.rotReg, decode x.1 = .ok (x.2.1, []) := by
  simp only [Rows.rotReg, List.forall_mem_append, List.forall_mem_cons, List.not_mem_nil, false_implies, implies_true, and_true]
  repeat' apply And.intro
  all_goals rfl

theorem test_decode_rotMem : ∀ d, ∀ x ∈ Rows.rotMem d, decode x.1 = .ok (x.2.1, []) := by
  intro d
  simp only [Rows.rotMem, List.forall_mem_append, List.forall_mem_cons, List.not_mem_nil, false_implies, implies_true, and_true]
  repeat' apply And.intro
  all_goals rfl

theorem test_decode_bitReg : ∀ x ∈ Rows.bitReg, decode x.1 = .ok (x.2.1, []) := by
  simp only [Rows.bitReg, List.forall_mem_append, List.forall_mem_cons, List.not_mem_nil, false_implies, implies_true, and_true]
  repeat' apply And.intro
  all_goals rfl

theorem test_decode_bitHl : ∀ x ∈ Rows.bitHl, decode x.1 = .ok (x.2.1, []) := by
  simp only [Rows.bitHl, List.forall_mem_cons, List.not_mem_nil, false_implies, implies_true, and_true]
  repeat' apply And.intro
  all_goals rfl

theorem test_decode_resReg : ∀ x ∈ Rows.resReg, decode x.1 = .ok (x.2.1, []) := by
  simp only [Rows.resReg, List.forall_mem_append, List.forall_mem_cons, List.not_mem_nil, false_implies, implies_true, and_true]
  repeat' apply And.intro
  all_goals rfl

theorem test_decode_resMem : ∀ d, ∀ x ∈ Rows.resMem d, decode x.1 = .ok (x.2.1, []) := by
  intro d
  simp only [Rows.resMem, List.forall_mem_append, List.forall_mem_cons, List.not_mem_nil, false_implies, implies_true, and_true]
  repeat' apply And.intro
  all_goals rfl

theorem test_decode_setReg : ∀ x ∈ Rows.setReg, decode x.1 = .ok (x.2.1, []) := by
  simp only [Rows.setReg, List.forall_mem_append, List.forall_mem_cons, List.not_mem_nil, false_implies, implies_true, and_true]
  repeat' apply And.intro
  all_goals rfl

theorem test_decode_setMem : ∀ d, ∀ x ∈ Rows.setMem d, decode x.1 = .ok (x.2.1, []) := by
  intro d
  simp only [Rows.setMem, List.forall_mem_append, List.forall_mem_cons, List.not_mem_nil, false_implies, implies_true, and_true]
  repeat' apply And.intro
  all_goals rfl

theorem test_decode_inPort : ∀ x ∈ Rows.inPort, decode x.1 = .ok (x.2.1, []) := by
  simp only [Rows.inPort, List.forall_mem_cons, List.not_mem_nil, false_implies, implies_true, and_true]
  repeat' apply And.intro
  all_goals rfl

theorem test_decode_outReg : ∀ x ∈ Rows.outReg, decode x.1 = .ok (x.2.1, []) := by
  simp only [Rows.outReg, List.forall_mem_cons, List.not_mem_nil, false_implies, implies_true, and_true]
  repeat' apply And.intro
  all_goals rfl

theorem test_decode_sbcHl : ∀ x ∈ Rows.sbcHl, decode x.1 = .ok (x.2.1, []) := by
  simp only [Rows.sbcHl, List.forall_mem_cons, List.not_mem_nil, false_implies, implies_true, and_true]
  repeat' apply And.intro
  all_goals rfl

theorem test_decode_neg : ∀ x ∈ Rows.neg, decode x.1 = .ok (x.2, []) := by
  simp only [Rows.neg, List.forall_mem_cons, List.not_mem_nil, false_implies, implies_true, and_true]
  repeat' apply And.intro
  all_goals rfl

theorem test_decode_retInt : ∀ x ∈ Rows.retInt, decode x.1 = .ok (x.2, []) := by
  simp only [Rows.retInt, List.forall_mem_cons, List.not_mem_nil, false_implies, implies_true, and_true]
  repeat' apply And.intro
  all_goals rfl

theorem test_decode_im : ∀ x ∈ Rows.im, decode x.1 = .ok (x.2.1, []) := by
  simp only [Rows.im, List.forall_mem_cons, List.not_mem_nil, false_implies, implies_true, and_true]
  repeat' apply And.intro
  all_goals rfl

theorem test_decode_adcHl : ∀ x ∈ Rows.adcHl, decode x.1 = .ok (x.2.1, []) := by
  simp only [Rows.adcHl, List.forall_mem_cons, List.not_mem_nil, false_implies, implies_true, and_true]
  repeat' apply And.intro
  all_goals rfl

theorem test_decode_bitIdx : ∀ d, ∀ x ∈ Rows.bitIdx d, decode x.1 = .ok (x.2.1, []) := by
  intro d
  simp only [Rows.bitIdx, List.forall_mem_append, List.forall_mem_cons, List.not_mem_nil, false_implies, implies_true, and_true]
  repeat' apply And.intro
  all_goals rfl

/-- The rows of no table above. -/
theorem test_decode_singles : ∀ n l h : Byte, ∀ x ∈ ([
    ([0x00], .nop), ([0x08], .ex_af_af), ([0x10, n], .djnz_e n), ([0x18, n], .jr_e n), ([0x27], .daa), ([0x2F], .cpl),
    ([0x37], .scf), ([0x3F], .ccf), ([0x76], .halt), ([0xC3, l, h], .jp_nn (joinBytes h l)), ([0xC9], .ret),
    ([0xCD, l, h], .call_nn (joinBytes h l)), ([0xD3, n], .out_mn_a n), ([0xD9], .exx), ([0xDB, n], .in_a_mn n),
    ([0xEB], .ex_de_hl), ([0xF3], .di), ([0xFB], .ei), ([0xED, 0x47], .ld_i_a), ([0xED, 0x4F], .ld_r_a),
    ([0xED, 0x57], .ld_a_i), ([0xED, 0x5F], .ld_a_r), ([0xED, 0x67], .rrd), ([0xED, 0x6F], .rld), ([0xED, 0x71], .out_mc_0)] :
      List (List Byte × Instr)), decode x.1 = .ok (x.2, []) := by
  intro n l h
  simp only [List.forall_mem_cons, List.not_mem_nil, false_implies, implies_true, and_true]
  repeat' apply And.intro
  all_goals rfl

theorem test_decode_blocks : ∀ x ∈ ([
    ([0xED, 0xA0], .ldi), ([0xED, 0xA1], .cpi), ([0xED, 0xA2], .ini), ([0xED, 0xA3], .outi), ([0xED, 0xA8], .ldd),
    ([0xED, 0xA9], .cpd), ([0xED, 0xAA], .ind), ([0xED, 0xAB], .outd), ([0xED, 0xB0], .ldir), ([0xED, 0xB1], .cpir),
    ([0xED, 0xB2], .inir), ([0xED, 0xB3], .otir), ([0xED, 0xB8], .lddr), ([0xED, 0xB9], .cpdr), ([0xED, 0xBA], .indr),
    ([0xED, 0xBB], .otdr)] : List (List Byte × Instr)), decode x.1 = .ok (x.2, []) := by
  simp only [List.forall_mem_cons, List.not_mem_nil, false_implies, implies_true, and_true]
  repeat' apply And.intro
  all_goals rfl

/-- One word of each family, written out bit by bit from the rule named, fields apart: prefix, `x`, `y`, `z`. -/
theorem test_decode_bits :
    -- ld r,r' (R120), 01 yyy zzz with y = 7 (A), z = 4 (H)
    decode [0b01111100#8] = .ok (.ld_a_h, []) ∧
    -- ld dd,(nn) (R139), ED 01 pp1 011 nl nh with p = 1 (DE)
    decode [0b11101101#8, 0b01011011#8, 0b11111111#8, 0b00000000#8] = .ok (.ld_de_mnn 0x00FF, []) ∧
    -- ex (sp),ix (R154), DD E3
    decode [0b11011101#8, 0b11100011#8] = .ok (.ex_msp_ix, []) ∧
    -- sbc hl,ss (R175), ED 01 pp0 010 with p = 3 (SP)
    decode [0b11101101#8, 0b01110010#8] = .ok (.sbc_hl_sp, []) ∧
    -- pop qq (R203), 11 pp0 001 with p = 3 (AF)
    decode [0b11110001#8] = .ok (.pop_af, []) ∧
    -- call cc,nn (R218), 11 yyy 100 with y = 5 (pe)
    decode [0b11101100#8, 0b00000001#8, 0b10000000#8] = .ok (.call_pe_nn 0x8001, []) ∧
    -- cp s (R240), FD BE d
    decode [0b11111101#8, 0b10111110#8, 0b10000000#8] = .ok (.cp_miyd 0x80, []) ∧
    -- and s (R262), 10 100 zzz with z = 3 (E)
    decode [0b10100011#8] = .ok (.and_e, []) ∧
    -- set b,(ix+d),r (R295), DD CB d 11 bbb zzz with b = 3, z = 4 (H)
    decode [0b11011101#8, 0b11001011#8, 0b00000111#8, 0b11011100#8] = .ok (.set_3_mixd_h 7, []) ∧
    -- in r,(c) (R311), ED 01 yyy 000 with y = 7 (A)
    decode [0b11101101#8, 0b01111000#8] = .ok (.in_a_mc, []) ∧
    -- rr m (R348), CB 00 011 zzz with z = 2 (D)
    decode [0b11001011#8, 0b00011010#8] = .ok (.rr_d, []) :=
  ⟨rfl, rfl, rfl, rfl, rfl, rfl, rfl, rfl, rfl, rfl, rfl⟩

/-- 30_encoding.md R90, R91: bytes that are no instruction, refused by name. -/
theorem test_illegal_bytes :
    decode [0xED, 0x00] = .error (.illegal 0xED 0x00) ∧ decode [0xED, 0x77] = .error (.illegal 0xED 0x77) ∧
    decode [0xED, 0xA4] = .error (.illegal 0xED 0xA4) ∧ decode [0xDD, 0xDD] = .error (.illegal 0xDD 0xDD) ∧
    decode [0xFD, 0x40] = .error (.illegal 0xFD 0x40) := ⟨rfl, rfl, rfl, rfl, rfl⟩

/-- The opcode table's numbering: a word's bytes give its instruction. -/
theorem test_table_words :
    decodeTableWord 8 0x41 = some .ld_b_c ∧ decodeTableWord 16 0xED57 = some .ld_a_i ∧
    decodeTableWord 24 0xDD7E05 = some (.ld_a_mixd 5) := ⟨rfl, rfl, rfl⟩

/-! ## The vectors of 95_test_vectors.md: one step, the expected state the vector's -/

/-- The instruction bytes `code` at `PC` of `s` take one step to the changed state. -/
def Steps (s : State) (code : List Byte) (change : State → State) : Prop :=
  step (s.placeBytes s.pc code) = .next (change (s.placeBytes s.pc code))

/-- They take one step to a state of this status. -/
def StepsTo (s : State) (code : List Byte) (status : Status) : Prop :=
  ∃ t, step (s.placeBytes s.pc code) = .next t ∧ t.status = status

/-- The engine with 4096 bytes of memory (`MEM_SIZE = 0x1000`). -/
def small : State := { State.reset with params := { standardParams with memSize := 4096 } }

/-- The engine with `ADDR_WRAP = FAULT`. -/
def noWrap : State := { State.reset with params := { standardParams with addrWrap := .fault } }

/-! 40_load.md -/

/-- V1, `ld b,c`, R120. -/
theorem test_V1_ld_b_c : Steps { State.reset with c := 0x5A } [0x41] fun s => { s with b := 0x5A, pc := 0x0001 } := rfl

/-- V2, `ld a,(bc)`, R128. -/
theorem test_V2_ld_a_bc : Steps (({ State.reset with b := 0x12, c := 0x34 }).storeByte 0x1234 0x77) [0x0A] fun s =>
    { s with a := 0x77, pc := 0x0001 } := rfl

/-- V3, `ld (ix+*),a`, R125. -/
theorem test_V3_ld_ixd_a : Steps { State.reset with ixh := 0x10, ixl := 0x00, a := 0x42 } [0xDD, 0x77, 0xFF] fun s =>
    ({ s with pc := 0x0003 }).storeByte 0x0FFF 0x42 := rfl

/-- V4, `ld h,(ix+*)`, R123. -/
theorem test_V4_ld_h_ixd : Steps (({ State.reset with ixh := 0x20, ixl := 0x00 }).storeByte 0x2001 0x99) [0xDD, 0x66, 0x01] fun s =>
    { s with h := 0x99, pc := 0x0003 } := rfl

/-- V5, `ld ixh,*`, R121. -/
theorem test_V5_ld_ixh_n : Steps { State.reset with ixh := 0x12, ixl := 0x34 } [0xDD, 0x26, 0xAB] fun s =>
    { s with ixh := 0xAB, pc := 0x0003 } := rfl

/-- V6, `ld (iy+*),*`, R127. -/
theorem test_V6_ld_iyd_n : Steps { State.reset with iyh := 0x01, iyl := 0x00 } [0xFD, 0x36, 0x80, 0x55] fun s =>
    ({ s with pc := 0x0004 }).storeByte 0x0080 0x55 := rfl

/-- V7, `ld hl,(**)`, R138. -/
theorem test_V7_ld_hl_nn : Steps (((State.reset).storeByte 0x3000 0x34).storeByte 0x3001 0x12) [0x2A, 0x00, 0x30] fun s =>
    { s with h := 0x12, l := 0x34, pc := 0x0003 } := rfl

/-- V8, `ld (**),sp`, R142. -/
theorem test_V8_ld_nn_sp : Steps { State.reset with sp := 0xBEEF } [0xED, 0x73, 0xFF, 0xFF] fun s =>
    (({ s with pc := 0x0004 }).storeByte 0x0000 0xBE).storeByte 0xFFFF 0xEF := rfl

/-- V9, `ld a,i`, R132. -/
theorem test_V9_ld_a_i : Steps { State.reset with i := 0x80, iff2 := true, f := 0x01 } [0xED, 0x57] fun s =>
    { s with a := 0x80, f := 0x85, pc := 0x0002 } := rfl

/-- V11, `ld a,r`, R133. -/
theorem test_V11_ld_a_r : Steps { State.reset with r := 0x28 } [0xED, 0x5F] fun s =>
    { s with a := 0x28, f := 0x28, pc := 0x0002 } := rfl

/-- V12, `ld a,r`, R133. -/
theorem test_V12_ld_a_r : Steps { State.reset with r := 0x28, params := { standardParams with rMode := .m1 } } [0xED, 0x5F] fun s =>
    { s with a := 0x2A, f := 0x28, r := 0x2A, pc := 0x0002 } := rfl

/-- V13, `ld sp,hl`, R144. -/
theorem test_V13_ld_sp_hl : Steps { State.reset with h := 0x80, l := 0x00 } [0xF9] fun s =>
    { s with sp := 0x8000, pc := 0x0001 } := rfl

/-- V14, `ld (**),a`, R131. -/
theorem test_V14_ld_nn_a : Steps { State.reset with a := 0xC3 } [0x32, 0x34, 0x12] fun s =>
    ({ s with pc := 0x0003 }).storeByte 0x1234 0xC3 := rfl

/-! 41_exchange.md -/

/-- V20, `ex de,hl`, R150. -/
theorem test_V20_ex_de_hl : Steps { State.reset with d := 0x11, e := 0x11, h := 0x22, l := 0x22 } [0xEB] fun s =>
    { s with d := 0x22, e := 0x22, h := 0x11, l := 0x11, pc := 0x0001 } := rfl

/-- V21, `ex af,af'`, R151. -/
theorem test_V21_ex_af_af : Steps { State.reset with a := 0x01, f := 0x02, a' := 0x03, f' := 0x04 } [0x08] fun s =>
    { s with a := 0x03, f := 0x04, a' := 0x01, f' := 0x02, pc := 0x0001 } := rfl

/-- V22, `exx`, R152. -/
theorem test_V22_exx : Steps { State.reset with b := 0x01, c := 0x02, b' := 0x0A, c' := 0x0B, h := 0x05, l := 0x06 } [0xD9] fun s =>
    { s with b := 0x0A, c := 0x0B, h := 0x00, l := 0x00, b' := 0x01, c' := 0x02, h' := 0x05, l' := 0x06, pc := 0x0001 } := rfl

/-- V23, `ex (sp),hl`, R153. -/
theorem test_V23_ex_sp_hl : Steps ((({ State.reset with sp := 0x4000, h := 0x12, l := 0x34 }).storeByte 0x4000 0x78).storeByte 0x4001 0x56) [0xE3] fun s =>
    (({ s with h := 0x56, l := 0x78, pc := 0x0001 }).storeByte 0x4000 0x34).storeByte 0x4001 0x12 := rfl

/-- V24, `ex (sp),ix`, R154. -/
theorem test_V24_ex_sp_ix : Steps ((({ State.reset with sp := 0xFFFF, ixh := 0xAA, ixl := 0xBB }).storeByte 0xFFFF 0x01).storeByte 0x0000 0xDD) [0xDD, 0xE3] fun s =>
    (({ s with ixh := 0xDD, ixl := 0x01, pc := 0x0002 }).storeByte 0x0000 0xAA).storeByte 0xFFFF 0xBB := rfl

/-! 42_arith.md -/

/-- V30, `add a,b`, R165. -/
theorem test_V30_add_a_b : Steps { State.reset with a := 0x7F, b := 0x01 } [0x80] fun s =>
    { s with a := 0x80, f := 0x94, pc := 0x0001 } := rfl

/-- V32, `adc a,b`, R166. -/
theorem test_V32_adc_a_b : Steps { State.reset with a := 0x00, b := 0xFF, f := 0x01 } [0x88] fun s =>
    { s with f := 0x51, pc := 0x0001 } := rfl

/-- V33, `adc a,*`, R166. -/
theorem test_V33_adc_a_n : Steps { State.reset with a := 0x70, f := 0x01 } [0xCE, 0x0F] fun s =>
    { s with a := 0x80, f := 0x94, pc := 0x0002 } := rfl

/-- V34, `sub b`, R167. -/
theorem test_V34_sub_b : Steps { State.reset with a := 0x80, b := 0x01 } [0x90] fun s =>
    { s with a := 0x7F, f := 0x3E, pc := 0x0001 } := rfl

/-- V36, `sbc a,a`, R168. -/
theorem test_V36_sbc_a_a : Steps { State.reset with a := 0x5A, f := 0x01 } [0x9F] fun s =>
    { s with a := 0xFF, f := 0xBB, pc := 0x0001 } := rfl

/-- V37, `sbc a,*`, R168. -/
theorem test_V37_sbc_a_n : Steps { State.reset with a := 0x00, f := 0x01 } [0xDE, 0x00] fun s =>
    { s with a := 0xFF, f := 0xBB, pc := 0x0002 } := rfl

/-- V38, `inc a`, R169. -/
theorem test_V38_inc_a : Steps { State.reset with a := 0x7F, f := 0x01 } [0x3C] fun s =>
    { s with a := 0x80, f := 0x95, pc := 0x0001 } := rfl

/-- V39, `inc (hl)`, R170. -/
theorem test_V39_inc_hl : Steps (({ State.reset with h := 0x50, l := 0x00 }).storeByte 0x5000 0xFF) [0x34] fun s =>
    ({ s with f := 0x50, pc := 0x0001 }).storeByte 0x5000 0x00 := rfl

/-- V40, `dec b`, R171. -/
theorem test_V40_dec_b : Steps { State.reset with b := 0x80 } [0x05] fun s =>
    { s with f := 0x3E, b := 0x7F, pc := 0x0001 } := rfl

/-- V41, `dec a`, R171. -/
theorem test_V41_dec_a : Steps { State.reset with a := 0x01, f := 0x01 } [0x3D] fun s =>
    { s with a := 0x00, f := 0x43, pc := 0x0001 } := rfl

/-- V42, `dec (ix+*)`, R172. -/
theorem test_V42_dec_ixd : Steps (({ State.reset with ixh := 0x01, ixl := 0x02 }).storeByte 0x0100 0x10) [0xDD, 0x35, 0xFE] fun s =>
    ({ s with f := 0x1A, pc := 0x0003 }).storeByte 0x0100 0x0F := rfl

/-- V43, `add hl,de`, R173. -/
theorem test_V43_add_hl_de : Steps { State.reset with h := 0x0F, l := 0xFF, d := 0x00, e := 0x01, f := 0xC4 } [0x19] fun s =>
    { s with f := 0xD4, h := 0x10, l := 0x00, pc := 0x0001 } := rfl

/-- V44, `add hl,hl`, R173. -/
theorem test_V44_add_hl_hl : Steps { State.reset with h := 0x80, l := 0x00 } [0x29] fun s =>
    { s with f := 0x01, h := 0x00, pc := 0x0001 } := rfl

/-- V45, `adc hl,bc`, R174. -/
theorem test_V45_adc_hl_bc : Steps { State.reset with h := 0x7F, l := 0xFF, b := 0x00, c := 0x00, f := 0x01 } [0xED, 0x4A] fun s =>
    { s with f := 0x94, h := 0x80, l := 0x00, pc := 0x0002 } := rfl

/-- V46, `sbc hl,de`, R175. -/
theorem test_V46_sbc_hl_de : Steps { State.reset with h := 0x12, l := 0x34, d := 0x12, e := 0x34 } [0xED, 0x52] fun s =>
    { s with f := 0x42, h := 0x00, l := 0x00, pc := 0x0002 } := rfl

/-- V48, `add ix,sp`, R176. -/
theorem test_V48_add_ix_sp : Steps { State.reset with ixh := 0x10, ixl := 0x00, sp := 0xF000 } [0xDD, 0x39] fun s =>
    { s with f := 0x01, ixh := 0x00, pc := 0x0002 } := rfl

/-- V49, `inc bc`, R177. -/
theorem test_V49_inc_bc : Steps { State.reset with b := 0xFF, c := 0xFF, f := 0x00 } [0x03] fun s =>
    { s with b := 0x00, c := 0x00, pc := 0x0001 } := rfl

/-- V50, `dec sp`, R179. -/
theorem test_V50_dec_sp : Steps { State.reset with sp := 0x0000 } [0x3B] fun s =>
    { s with sp := 0xFFFF, pc := 0x0001 } := rfl

/-- V51, `inc iyl`, R169. -/
theorem test_V51_inc_iyl : Steps { State.reset with iyh := 0x12, iyl := 0xFF } [0xFD, 0x2C] fun s =>
    { s with f := 0x50, iyl := 0x00, pc := 0x0002 } := rfl

/-! 43_stack.md -/

/-- V60, `push bc`, R201. -/
theorem test_V60_push_bc : Steps { State.reset with b := 0x12, c := 0x34, sp := 0x0000 } [0xC5] fun s =>
    (({ s with sp := 0xFFFE, pc := 0x0001 }).storeByte 0xFFFE 0x34).storeByte 0xFFFF 0x12 := rfl

/-- V61, `pop af`, R203. -/
theorem test_V61_pop_af : Steps ((({ State.reset with sp := 0xFFFE }).storeByte 0xFFFE 0xD7).storeByte 0xFFFF 0x01) [0xF1] fun s =>
    { s with a := 0x01, f := 0xD7, sp := 0x0000, pc := 0x0001 } := rfl

/-- V62, `push ix`, R202. -/
theorem test_V62_push_ix : Steps { State.reset with ixh := 0xBE, ixl := 0xEF, sp := 0x4000 } [0xDD, 0xE5] fun s =>
    (({ s with sp := 0x3FFE, pc := 0x0002 }).storeByte 0x3FFE 0xEF).storeByte 0x3FFF 0xBE := rfl

/-! 44_control_flow.md -/

/-- V70, `jp **`, R210. -/
theorem test_V70_jp_nn : Steps State.reset [0xC3, 0x00, 0x80] fun s => { s with pc := 0x8000 } := rfl

/-- V71, `jp nz,**`, R211. -/
theorem test_V71_jp_nz_nn : Steps { State.reset with f := 0x40 } [0xC2, 0x00, 0x80] fun s =>
    { s with pc := 0x0003 } := rfl

/-- V72, `jp pe,**`, R211. -/
theorem test_V72_jp_pe_nn : Steps { State.reset with f := 0x04 } [0xEA, 0x00, 0x80] fun s =>
    { s with pc := 0x8000 } := rfl

/-- V73, `jr *`, R212. -/
theorem test_V73_jr_n : Steps { State.reset with pc := 0x0100 } [0x18, 0xFE] fun s => s := rfl

/-- V74, `jr *`, R212. -/
theorem test_V74_jr_n : Steps { State.reset with pc := 0x0100 } [0x18, 0x7F] fun s => { s with pc := 0x0181 } := rfl

/-- V77, `jr c,*`, R213. -/
theorem test_V77_jr_c_n : Steps { State.reset with pc := 0x0010, f := 0x01 } [0x38, 0xFC] fun s =>
    { s with pc := 0x000E } := rfl

/-- V78, `djnz *`, R216. -/
theorem test_V78_djnz_n : Steps { State.reset with pc := 0x0200, b := 0x01 } [0x10, 0xFE] fun s =>
    { s with b := 0x00, pc := 0x0202 } := rfl

/-- V79, `djnz *`, R216. -/
theorem test_V79_djnz_n : Steps { State.reset with pc := 0x0200, b := 0x00 } [0x10, 0xFE] fun s =>
    { s with b := 0xFF } := rfl

/-- V80, `call **`, R217. -/
theorem test_V80_call_nn : Steps { State.reset with pc := 0x0100, sp := 0x0000 } [0xCD, 0x34, 0x12] fun s =>
    (({ s with sp := 0xFFFE, pc := 0x1234 }).storeByte 0xFFFE 0x03).storeByte 0xFFFF 0x01 := rfl

/-- V81, `call c,**`, R218. -/
theorem test_V81_call_c_nn : Steps { State.reset with sp := 0x8000, f := 0x00 } [0xDC, 0x34, 0x12] fun s =>
    { s with pc := 0x0003 } := rfl

/-- V82, `ret`, R219. -/
theorem test_V82_ret : Steps ((({ State.reset with sp := 0x7FFE }).storeByte 0x7FFE 0x03).storeByte 0x7FFF 0x01) [0xC9] fun s =>
    { s with sp := 0x8000, pc := 0x0103 } := rfl

/-- V83, `ret m`, R220. -/
theorem test_V83_ret_m : Steps ((({ State.reset with sp := 0x7FFE, f := 0x80 }).storeByte 0x7FFE 0x03).storeByte 0x7FFF 0x01) [0xF8] fun s =>
    { s with sp := 0x8000, pc := 0x0103 } := rfl

/-- V85, `rst 38h`, R223. -/
theorem test_V85_rst_38h : Steps { State.reset with pc := 0x1234, sp := 0x8000 } [0xFF] fun s =>
    (({ s with sp := 0x7FFE, pc := 0x0038 }).storeByte 0x7FFE 0x35).storeByte 0x7FFF 0x12 := rfl

/-- V86, `jp (hl)`, R214. -/
theorem test_V86_jp_hl : Steps (({ State.reset with h := 0x43, l := 0x21 }).storeByte 0x4321 0x00) [0xE9] fun s =>
    { s with pc := 0x4321 } := rfl

/-- V88, `reti`, R221. -/
theorem test_V88_reti : Steps ((({ State.reset with sp := 0x8000, iff1 := false, iff2 := true }).storeByte 0x8000 0x00).storeByte 0x8001 0x10) [0xED, 0x4D] fun s =>
    { s with sp := 0x8002, pc := 0x1000, iff1 := true } := rfl

/-- V89, `retn`, R222. -/
theorem test_V89_retn : Steps ((({ State.reset with sp := 0x8000, iff1 := true, iff2 := false }).storeByte 0x8000 0x00).storeByte 0x8001 0x10) [0xED, 0x45] fun s =>
    { s with sp := 0x8002, pc := 0x1000, iff1 := false } := rfl

/-! 45_compare_block.md -/

/-- V100, `cp b`, R240. -/
theorem test_V100_cp_b : Steps { State.reset with a := 0x40, b := 0x40 } [0xB8] fun s =>
    { s with f := 0x42, pc := 0x0001 } := rfl

/-- V101, `cp *`, R240. -/
theorem test_V101_cp_n : Steps { State.reset with a := 0x10 } [0xFE, 0x28] fun s =>
    { s with f := 0xBB, pc := 0x0002 } := rfl

/-- V102, `cp (hl)`, R240. -/
theorem test_V102_cp_hl : Steps (({ State.reset with a := 0x80, h := 0x30, l := 0x00 }).storeByte 0x3000 0x01) [0xBE] fun s =>
    { s with f := 0x16, pc := 0x0001 } := rfl

/-- V103, `ldi`, R242. -/
theorem test_V103_ldi : Steps (({ State.reset with h := 0x10, l := 0x00, d := 0x20, e := 0x00, b := 0x00, c := 0x01, a := 0x00 }).storeByte 0x1000 0x0A) [0xED, 0xA0] fun s =>
    ({ s with f := 0x28, c := 0x00, e := 0x01, l := 0x01, pc := 0x0002 }).storeByte 0x2000 0x0A := rfl

/-- V105, `ldir`, R243. -/
theorem test_V105_ldir : Steps (({ State.reset with h := 0x10, l := 0x00, d := 0x10, e := 0x01, b := 0x00, c := 0x03 }).storeByte 0x1000 0x5A) [0xED, 0xB0] fun s =>
    ((({ s with f := 0x28, c := 0x00, e := 0x04, l := 0x03, pc := 0x0002 }).storeByte 0x1001 0x5A).storeByte 0x1002 0x5A).storeByte 0x1003 0x5A := rfl

/-- V106, `lddr`, R245. -/
theorem test_V106_lddr : Steps (((({ State.reset with h := 0x10, l := 0x02, d := 0x20, e := 0x02, b := 0x00, c := 0x03 }).storeByte 0x1000 0x01).storeByte 0x1001 0x02).storeByte 0x1002 0x03) [0xED, 0xB8] fun s =>
    ((({ s with c := 0x00, d := 0x1F, e := 0xFF, h := 0x0F, l := 0xFF, pc := 0x0002 }).storeByte 0x2000 0x01).storeByte 0x2001 0x02).storeByte 0x2002 0x03 := rfl

/-- V107, `cpi`, R247. -/
theorem test_V107_cpi : Steps (({ State.reset with a := 0x3C, h := 0x10, l := 0x00, b := 0x00, c := 0x02, f := 0x01 }).storeByte 0x1000 0x3C) [0xED, 0xA1] fun s =>
    { s with f := 0x47, c := 0x01, l := 0x01, pc := 0x0002 } := rfl

/-- V108, `cpir`, R248. -/
theorem test_V108_cpir : Steps (((({ State.reset with a := 0x07, h := 0x10, l := 0x00, b := 0x00, c := 0x05 }).storeByte 0x1000 0x01).storeByte 0x1001 0x02).storeByte 0x1002 0x07) [0xED, 0xB1] fun s =>
    { s with f := 0x46, c := 0x02, l := 0x03, pc := 0x0002 } := rfl

/-- V110, `cpdr`, R250. -/
theorem test_V110_cpdr : Steps ((({ State.reset with a := 0x01, h := 0x10, l := 0x01, b := 0x00, c := 0x02 }).storeByte 0x1000 0x01).storeByte 0x1001 0x00) [0xED, 0xB9] fun s =>
    { s with f := 0x42, c := 0x00, h := 0x0F, l := 0xFF, pc := 0x0002 } := rfl

/-! 46_logic_control.md -/

/-- V120, `cpl`, R260. -/
theorem test_V120_cpl : Steps { State.reset with a := 0x5A, f := 0x00 } [0x2F] fun s =>
    { s with a := 0xA5, f := 0x32, pc := 0x0001 } := rfl

/-- V122, `neg`, R261. -/
theorem test_V122_neg : Steps { State.reset with a := 0x80 } [0xED, 0x44] fun s =>
    { s with f := 0x87, pc := 0x0002 } := rfl

/-- V123, `neg`, R261. -/
theorem test_V123_neg : Steps { State.reset with a := 0x00, f := 0x01 } [0xED, 0x44] fun s =>
    { s with f := 0x42, pc := 0x0002 } := rfl

/-- V124, `and b`, R262. -/
theorem test_V124_and_b : Steps { State.reset with a := 0xF0, b := 0x0F, f := 0x01 } [0xA0] fun s =>
    { s with a := 0x00, f := 0x54, pc := 0x0001 } := rfl

/-- V125, `or *`, R263. -/
theorem test_V125_or_n : Steps { State.reset with a := 0x00 } [0xF6, 0x81] fun s =>
    { s with a := 0x81, f := 0x84, pc := 0x0002 } := rfl

/-- V126, `xor a`, R264. -/
theorem test_V126_xor_a : Steps { State.reset with a := 0xFF, f := 0xFF } [0xAF] fun s =>
    { s with a := 0x00, f := 0x44, pc := 0x0001 } := rfl

/-- V127, `daa`, R265. -/
theorem test_V127_daa : Steps { State.reset with a := 0x3C, f := 0x00 } [0x27] fun s =>
    { s with a := 0x42, f := 0x14, pc := 0x0001 } := rfl

/-- V129, `daa`, R265. -/
theorem test_V129_daa : Steps { State.reset with a := 0x00, f := 0x12 } [0x27] fun s =>
    { s with a := 0xFA, f := 0xBE, pc := 0x0001 } := rfl

/-- V131, `ccf`, R266. -/
theorem test_V131_ccf : Steps { State.reset with a := 0x28, f := 0x01 } [0x3F] fun s =>
    { s with f := 0x38, pc := 0x0001 } := rfl

/-- V132, `scf`, R267. -/
theorem test_V132_scf : Steps { State.reset with a := 0x00, f := 0x12 } [0x37] fun s =>
    { s with f := 0x01, pc := 0x0001 } := rfl

/-- V133, `nop`, R268. -/
theorem test_V133_nop : Steps State.reset [0x00] fun s => { s with pc := 0x0001 } := rfl

/-- V134, `halt`, R269. -/
theorem test_V134_halt : Steps { State.reset with pc := 0x0010 } [0x76] fun s =>
    { s with pc := 0x0011, status := .halted } := rfl

/-- V135, `di`, R270. -/
theorem test_V135_di : Steps { State.reset with iff1 := true, iff2 := true } [0xF3] fun s =>
    { s with pc := 0x0001, iff1 := false, iff2 := false } := rfl

/-- V136, `ei`, R271. -/
theorem test_V136_ei : Steps State.reset [0xFB] fun s => { s with pc := 0x0001, iff1 := true, iff2 := true } := rfl

/-- V137, `im 2`, R272. -/
theorem test_V137_im_2 : Steps State.reset [0xED, 0x5E] fun s => { s with pc := 0x0002, im := 2 } := rfl

/-- V138, `im 0/1`, R272. -/
theorem test_V138_im_0_1 : Steps { State.reset with im := 2 } [0xED, 0x4E] fun s =>
    { s with pc := 0x0002, im := 0 } := rfl

/-! 47_bit.md -/

/-- V150, `bit 7,a`, R290. -/
theorem test_V150_bit_7_a : Steps { State.reset with a := 0x80 } [0xCB, 0x7F] fun s =>
    { s with f := 0x90, pc := 0x0002 } := rfl

/-- V152, `bit 5,b`, R290. -/
theorem test_V152_bit_5_b : Steps { State.reset with b := 0x28 } [0xCB, 0x68] fun s =>
    { s with f := 0x38, pc := 0x0002 } := rfl

/-- V153, `bit 3,(hl)`, R291. -/
theorem test_V153_bit_3_hl : Steps (({ State.reset with h := 0x10, l := 0x00 }).storeByte 0x1000 0x28) [0xCB, 0x5E] fun s =>
    { s with f := 0x38, pc := 0x0002 } := rfl

/-- V154, `bit 4,(ix+*)`, R292. -/
theorem test_V154_bit_4_ixd : Steps (({ State.reset with ixh := 0x28, ixl := 0x00 }).storeByte 0x2805 0x10) [0xDD, 0xCB, 0x05, 0x66] fun s =>
    { s with f := 0x38, pc := 0x0004 } := rfl

/-- V155, `set 7,(hl)`, R294. -/
theorem test_V155_set_7_hl : Steps (({ State.reset with h := 0x10, l := 0x00 }).storeByte 0x1000 0x01) [0xCB, 0xFE] fun s =>
    ({ s with pc := 0x0002 }).storeByte 0x1000 0x81 := rfl

/-- V156, `res 0,b`, R296. -/
theorem test_V156_res_0_b : Steps { State.reset with b := 0xFF } [0xCB, 0x80] fun s =>
    { s with b := 0xFE, pc := 0x0002 } := rfl

/-- V157, `set 0,(ix+*),c`, R295. -/
theorem test_V157_set_0_ixd_c : Steps (({ State.reset with ixh := 0x10, ixl := 0x01 }).storeByte 0x1000 0x80) [0xDD, 0xCB, 0xFF, 0xC1] fun s =>
    ({ s with c := 0x81, pc := 0x0004 }).storeByte 0x1000 0x81 := rfl

/-- V158, `res 7,(iy+*),a`, R298. -/
theorem test_V158_res_7_iyd_a : Steps (({ State.reset with iyh := 0x20, iyl := 0x00 }).storeByte 0x2000 0xFF) [0xFD, 0xCB, 0x00, 0xBF] fun s =>
    ({ s with a := 0x7F, pc := 0x0004 }).storeByte 0x2000 0x7F := rfl

/-! 48_io.md -/

/-- V170, `in a,(*)`, R310. -/
theorem test_V170_in_a_n : Steps (({ State.reset with a := 0x12, f := 0x01 }).portWrite 0x10 0x9C) [0xDB, 0x10] fun s =>
    { s with a := 0x9C, pc := 0x0002 } := rfl

/-- V171, `in b,(c)`, R311. -/
theorem test_V171_in_b_c : Steps (({ State.reset with b := 0xFF, c := 0x20, f := 0x01 }).portWrite 0x20 0x00) [0xED, 0x40] fun s =>
    { s with f := 0x45, b := 0x00, pc := 0x0002 } := rfl

/-- V172, `in (c)`, R312. -/
theorem test_V172_in_c : Steps (({ State.reset with c := 0x20 }).portWrite 0x20 0x81) [0xED, 0x70] fun s =>
    { s with f := 0x84, pc := 0x0002 } := rfl

/-- V173, `out (*),a`, R313. -/
theorem test_V173_out_n_a : Steps { State.reset with a := 0x07 } [0xD3, 0xFE] fun s =>
    ({ s with pc := 0x0002 }).portWrite 0xFE 0x07 := rfl

/-- V174, `out (c),h`, R314. -/
theorem test_V174_out_c_h : Steps { State.reset with b := 0x12, c := 0x34, h := 0xAA } [0xED, 0x61] fun s =>
    ({ s with pc := 0x0002 }).portWrite 0x34 0xAA := rfl

/-- V175, `out (c),0`, R315. -/
theorem test_V175_out_c_0 : Steps (({ State.reset with c := 0x10 }).portWrite 0x10 0x55) [0xED, 0x71] fun s =>
    ({ s with pc := 0x0002 }).portWrite 0x10 0x00 := rfl

/-- V176, `ini`, R317. -/
theorem test_V176_ini : Steps (({ State.reset with b := 0x01, c := 0x10, h := 0x30, l := 0x00 }).portWrite 0x10 0x42) [0xED, 0xA2] fun s =>
    ({ s with f := 0x44, b := 0x00, l := 0x01, pc := 0x0002 }).storeByte 0x3000 0x42 := rfl

/-- V177, `inir`, R318. -/
theorem test_V177_inir : Steps (({ State.reset with b := 0x03, c := 0x10, h := 0x30, l := 0x00 }).portWrite 0x10 0x42) [0xED, 0xB2] fun s =>
    ((({ s with f := 0x44, b := 0x00, l := 0x03, pc := 0x0002 }).storeByte 0x3000 0x42).storeByte 0x3001 0x42).storeByte 0x3002 0x42 := rfl

/-- V178, `outi`, R321. -/
theorem test_V178_outi : Steps (({ State.reset with b := 0x02, c := 0x20, h := 0x30, l := 0x00 }).storeByte 0x3000 0x80) [0xED, 0xA3] fun s =>
    ({ s with f := 0x06, b := 0x01, l := 0x01, pc := 0x0002 }).portWrite 0x20 0x80 := rfl

/-- V179, `otdr`, R324. -/
theorem test_V179_otdr : Steps ((({ State.reset with b := 0x02, c := 0x20, h := 0x30, l := 0x01 }).storeByte 0x3000 0x11).storeByte 0x3001 0x22) [0xED, 0xBB] fun s =>
    ({ s with f := 0x55, b := 0x00, h := 0x2F, l := 0xFF, pc := 0x0002 }).portWrite 0x20 0x11 := rfl

/-! 49_rotate_shift.md -/

/-- V190, `rlca`, R341. -/
theorem test_V190_rlca : Steps { State.reset with a := 0x80, f := 0xC4 } [0x07] fun s =>
    { s with a := 0x01, f := 0xC5, pc := 0x0001 } := rfl

/-- V192, `rla`, R343. -/
theorem test_V192_rla : Steps { State.reset with a := 0x80, f := 0x00 } [0x17] fun s =>
    { s with a := 0x00, f := 0x01, pc := 0x0001 } := rfl

/-- V193, `rra`, R344. -/
theorem test_V193_rra : Steps { State.reset with a := 0x01, f := 0x01 } [0x1F] fun s =>
    { s with a := 0x80, pc := 0x0001 } := rfl

/-- V194, `rlc b`, R345. -/
theorem test_V194_rlc_b : Steps { State.reset with b := 0x00, f := 0x01 } [0xCB, 0x00] fun s =>
    { s with f := 0x44, pc := 0x0002 } := rfl

/-- V195, `rrc c`, R346. -/
theorem test_V195_rrc_c : Steps { State.reset with c := 0x01 } [0xCB, 0x09] fun s =>
    { s with f := 0x81, c := 0x80, pc := 0x0002 } := rfl

/-- V197, `rr (hl)`, R348. -/
theorem test_V197_rr_hl : Steps (({ State.reset with h := 0x10, l := 0x00, f := 0x01 }).storeByte 0x1000 0x02) [0xCB, 0x1E] fun s =>
    ({ s with f := 0x84, pc := 0x0002 }).storeByte 0x1000 0x81 := rfl

/-- V199, `sra h`, R350. -/
theorem test_V199_sra_h : Steps { State.reset with h := 0x81 } [0xCB, 0x2C] fun s =>
    { s with f := 0x85, h := 0xC0, pc := 0x0002 } := rfl

/-- V200, `sll l`, R351. -/
theorem test_V200_sll_l : Steps { State.reset with l := 0x80 } [0xCB, 0x35] fun s =>
    { s with f := 0x01, l := 0x01, pc := 0x0002 } := rfl

/-- V201, `srl a`, R352. -/
theorem test_V201_srl_a : Steps { State.reset with a := 0x01 } [0xCB, 0x3F] fun s =>
    { s with a := 0x00, f := 0x45, pc := 0x0002 } := rfl

/-- V202, `rlc (ix+*),b`, R345. -/
theorem test_V202_rlc_ixd_b : Steps (({ State.reset with ixh := 0x10, ixl := 0x00 }).storeByte 0x1001 0x81) [0xDD, 0xCB, 0x01, 0x00] fun s =>
    ({ s with f := 0x05, b := 0x03, pc := 0x0004 }).storeByte 0x1001 0x03 := rfl

/-- V203, `rld`, R353. -/
theorem test_V203_rld : Steps (({ State.reset with a := 0x7A, h := 0x50, l := 0x00 }).storeByte 0x5000 0x31) [0xED, 0x6F] fun s =>
    ({ s with a := 0x73, f := 0x20, pc := 0x0002 }).storeByte 0x5000 0x1A := rfl

/-- V204, `rrd`, R354. -/
theorem test_V204_rrd : Steps (({ State.reset with a := 0x84, h := 0x50, l := 0x00 }).storeByte 0x5000 0x20) [0xED, 0x67] fun s =>
    ({ s with a := 0x80, f := 0x80, pc := 0x0002 }).storeByte 0x5000 0x42 := rfl

/-! The faults (60_exceptions.md) and execute-one (70_reset_and_hazards.md R403). -/

/-- V220, V221, V222: illegal encodings. -/
theorem test_V220_illegal : StepsTo .reset [0xED, 0x00] (.fault (.illegalOpcode 0xED 0x00 0)) := ⟨_, rfl, rfl⟩

theorem test_V221_illegal : StepsTo .reset [0xDD, 0x00] (.fault (.illegalOpcode 0xDD 0x00 0)) := ⟨_, rfl, rfl⟩

theorem test_V222_illegal : StepsTo .reset [0xFD, 0xDD, 0x21, 0x00, 0x00] (.fault (.illegalOpcode 0xFD 0xDD 0)) :=
  ⟨_, rfl, rfl⟩

/-- V223: a data read of an address that does not exist. -/
theorem test_V223_data_read : StepsTo small [0x3A, 0x00, 0x10] (.fault (.outOfRange .mem 0x1000 0)) := ⟨_, rfl, rfl⟩

/-- V224: a fetch of an address that does not exist. -/
theorem test_V224_fetch : StepsTo { small with pc := 0x0FFE } [0x01, 0x34] (.fault (.outOfRange .mem 0x1000 0x0FFE)) :=
  ⟨_, rfl, rfl⟩

/-- V225: the end of memory. -/
theorem test_V225_end_of_memory : step { small with pc := 0x1000 } = .next { small with pc := 0x1000, status := .eom } := rfl

/-- V226: a stack write of an address that does not exist. -/
theorem test_V226_push : StepsTo small [0xC5] (.fault (.outOfRange .mem 0xFFFF 0)) := ⟨_, rfl, rfl⟩

/-- V227: `ADDR_WRAP = FAULT` changes nothing where no address is summed. -/
theorem test_V227_no_sum : Steps noWrap [0xDD, 0x21, 0x00, 0x10] fun s => { s with ixh := 0x10, pc := 4 } := rfl

/-- V228 and V229: an indexed sum past 65535. -/
theorem test_V228_sum_faults :
    StepsTo { noWrap with ixh := 0xFF, ixl := 0xFF } [0xDD, 0x7E, 0x01] (.fault (.outOfRange .mem 0x10000 0)) := ⟨_, rfl, rfl⟩

theorem test_V229_sum_wraps : Steps { State.reset with ixh := 0xFF, ixl := 0xFF } [0xDD, 0x7E, 0x01] fun s =>
    { s with a := 0xDD, pc := 3 } := rfl

/-- 30_encoding.md R101: under `DRAW` a flag the source does not give is a fresh draw, and the next draw is another. -/
theorem test_draw : Steps { State.reset with c := 1, params := { standardParams with undocFlags := .draw } } [0xED, 0xA0] fun s =>
    { ({ s with c := 0, l := 1, e := 1, pc := 2, draws := 2 } : State).storeByte 0 0xED with
      f := Flags.toByte { s := false, z := false, f5 := Config.freeBit 0, h := false, f3 := Config.freeBit 1, pv := false,
                          n := false, c := false } } := rfl

/-- 00_scope.md R12: a reset does not repeat a draw. The state has taken two draws; the first one after the reset is the
third. -/
theorem test_draw_after_reset :
    let s := { State.reset with draws := 2, params := { standardParams with undocFlags := .draw } }
    (s.hostReset standardLaunch).undocBit 0 false = Config.freeBit 2 ∧ (s.hostReset standardLaunch).pc = 0 := ⟨rfl, rfl⟩

/-- The execute-one vectors T1 and T2: the operand bytes stand at `PC`, the opcode bytes are not fetched. -/
theorem test_T1_execute_one : executeOne (.ld_bc_nn 0) (State.reset.placeBytes 0 [0x04, 0x0B]) =
    .next { State.reset.placeBytes 0 [0x04, 0x0B] with b := 0x0B, c := 0x04, pc := 2 } := rfl

theorem test_T2_execute_one : executeOne (.add_a_n 0x77) ({ State.reset with a := 0xFF }.placeBytes 0 [0x02]) =
    .next { { State.reset with a := 0xFF }.placeBytes 0 [0x02] with a := 0x01, f := 0x11, pc := 1 } := rfl

/-! ## The statements' hypotheses: states and operands that meet them

A statement over a table is met by its rows; one theorem names a row, and the clauses over the operand are met as below. -/

/-- Every 16-bit register of a memory address at `w`. -/
def at16 (s : State) (w : Word) : State :=
  { s with b := highByte w, c := lowByte w, d := highByte w, e := lowByte w, h := highByte w, l := lowByte w,
           ixh := highByte w, ixl := lowByte w, iyh := highByte w, iyl := lowByte w, sp := w }

theorem full_inMem (s : State) (a : Word) (h : s.params.memSize = 65536) : s.inMem a := by
  unfold State.inMem
  rw [h]
  exact a.isLt

/-- The three clauses of `OnByte` each have a state, at the boundary of memory and of the address range. -/
def ByteClauses (loc : Loc) : Prop :=
  (∃ (s : State) (a : Word), s.effAddr loc = .ok a ∧ s.inMem a) ∧ (∃ (s : State) (a : Word), s.effAddr loc = .ok a ∧ ¬ s.inMem a)

def IndexClauses (x : Idx) : Prop :=
  ByteClauses (.idx x 1) ∧ ∃ (s : State) (e : AccessFault), s.effAddr (.idx x 1) = .error e

/-- The four clauses of `OnWord` at the address `f s`. -/
def WordClauses (f : State → Word) : Prop :=
  (∃ s : State, ¬ s.inMem (f s)) ∧
  (∃ (s : State) (e : AccessFault), s.inMem (f s) ∧ s.addrNext (f s) = .error e) ∧
  (∃ (s : State) (b : Word), s.inMem (f s) ∧ s.addrNext (f s) = .ok b ∧ ¬ s.inMem b) ∧
  (∃ (s : State) (b : Word), s.inMem (f s) ∧ s.addrNext (f s) = .ok b ∧ s.inMem b)

/-- The three clauses of `OnStack` at the addresses `f s` and `g s`. -/
def StackClauses (f g : State → Word) : Prop :=
  (∃ s : State, ¬ s.inMem (f s)) ∧ (∃ s : State, s.inMem (f s) ∧ ¬ s.inMem (g s)) ∧ ∃ s : State, s.inMem (f s) ∧ s.inMem (g s)

theorem witness_byte_clauses : ByteClauses .bc ∧ ByteClauses .de ∧ ByteClauses .hl ∧ ByteClauses (.ext 0x1000) := by
  refine ⟨?_, ?_, ?_, ⟨State.reset, _, rfl, by decide⟩, small, _, rfl, by decide⟩ <;>
    exact ⟨⟨at16 small 0x0FFF, _, rfl, by decide⟩, at16 small 0x1000, _, rfl, by decide⟩

theorem witness_index_clauses : IndexClauses .ix ∧ IndexClauses .iy := by
  constructor <;>
    exact ⟨⟨⟨at16 small 0x0FFE, _, rfl, by decide⟩, at16 small 0x0FFF, _, rfl, by decide⟩, at16 noWrap 0xFFFF, _, rfl⟩

theorem noWrap_addrNext : noWrap.addrNext 0xFFFF = .error ⟨.mem, 65536⟩ := by
  simp [noWrap, State.addrNext, State.resolve]

/-- `OnWord` at `SP` and at the address 0xFFFF, 0x0FFF or 0x0FFE of a direct form. -/
theorem witness_word_clauses : WordClauses (·.sp) ∧
    ¬ small.inMem 0x1000 ∧ (noWrap.inMem 0xFFFF ∧ noWrap.addrNext 0xFFFF = .error ⟨.mem, 65536⟩) ∧
    (small.inMem 0x0FFF ∧ small.addrNext 0x0FFF = .ok 0x1000 ∧ ¬ small.inMem 0x1000) ∧
    (small.inMem 0x0FFE ∧ small.addrNext 0x0FFE = .ok 0x0FFF ∧ small.inMem 0x0FFF) := by
  refine ⟨⟨⟨at16 small 0x1000, by decide⟩, ⟨{ noWrap with sp := 0xFFFF }, _, full_inMem _ _ rfl, noWrap_addrNext⟩,
    ⟨at16 small 0x0FFF, _, by decide, rfl, by decide⟩, at16 small 0x0FFE, _, by decide, rfl, by decide⟩, ?_⟩
  refine ⟨by decide, ⟨full_inMem _ _ rfl, noWrap_addrNext⟩, ⟨by decide, rfl, by decide⟩, by decide, rfl, by decide⟩

/-- `OnStack` of a push, of a pop and of a block transfer. -/
theorem witness_stack_clauses : StackClauses (·.sp - 1) (·.sp - 2) ∧ StackClauses (·.sp) (·.sp + 1) ∧
    StackClauses (·.pair .hl) (·.pair .de) := by
  refine ⟨⟨⟨at16 small 0x1001, by decide⟩, ⟨at16 small 0x0001, by decide⟩, at16 small 0x1000, by decide⟩,
    ⟨⟨at16 small 0x1000, by decide⟩, ⟨at16 small 0x0FFF, by decide⟩, at16 small 0x0FFE, by decide⟩,
    ⟨at16 small 0x1000, by decide⟩, ⟨{ small with d := 0x10 }, by decide⟩, at16 small 0x0FFF, by decide⟩

theorem witness_RegisterFile : ((.ix, .ixh, .ixl) : Pair × Reg8 × Reg8) ∈
    ([(.bc, .b, .c), (.de, .d, .e), (.hl, .h, .l), (.ix, .ixh, .ixl), (.iy, .iyh, .iyl)] : List (Pair × Reg8 × Reg8)) := by
  decide

/-- Both values of `ADDR_WRAP`; under `FAULT` the sums 0, 65535, -1 and 65536. -/
theorem witness_EffectiveAddresses :
    State.reset.params.addrWrap = .wrap ∧ noWrap.params.addrWrap = .fault ∧
    (((at16 noWrap 0x0080).pair .ix).toNat : Int) + (0x80 : Byte).toInt = 0 ∧
    (((at16 noWrap 0xFF80).pair .ix).toNat : Int) + (0x7F : Byte).toInt = 65535 ∧
    (((at16 noWrap 0x007F).pair .iy).toNat : Int) + (0x80 : Byte).toInt = -1 ∧
    (((at16 noWrap 0xFF81).pair .iy).toNat : Int) + (0x7F : Byte).toInt = 65536 := by decide

theorem witness_CellArrays : (0x0FFF : Word).toNat < small.params.memSize ∧ ¬ (0x1000 : Word).toNat < small.params.memSize := by
  decide

theorem witness_WordAccess :
    (small.inMem 0x0FFE ∧ small.addrNext 0x0FFE = .ok 0x0FFF ∧ small.inMem 0x0FFF) ∧ ¬ small.inMem 0x1000 ∧
    (noWrap.inMem 0xFFFF ∧ noWrap.addrNext 0xFFFF = .error ⟨.mem, 65536⟩) ∧
    (small.inMem 0x0FFF ∧ small.addrNext 0x0FFF = .ok 0x1000 ∧ ¬ small.inMem 0x1000) :=
  ⟨⟨by decide, rfl, by decide⟩, by decide, ⟨full_inMem _ _ rfl, noWrap_addrNext⟩, by decide, rfl, by decide⟩

theorem witness_LoadRegister : ([0x41], .ld_b_c, .b, .c) ∈ Rows.loadReg ∧ ([0xFD, 0x7D], .ld_a_iyl, .a, .iyl) ∈ Rows.loadReg ∧
    ([0x3E, 5], .ld_a_n 5, .a) ∈ Rows.loadImm 5 :=
  ⟨List.mem_of_getElem? (i := 1) rfl, List.mem_of_getElem? (i := 96) rfl, List.mem_of_getElem? (i := 6) rfl⟩

theorem witness_LoadFromMemory : ([0x0A], .ld_a_mbc, .a, .bc) ∈ Rows.loadMem 1 0 0x10 ∧
    ([0x3A, 0, 0x10], .ld_a_mnn 0x1000, .a, .ext 0x1000) ∈ Rows.loadMem 1 0 0x10 ∧
    ([0xFD, 0x7E, 1], .ld_a_miyd 1, .a, .idx .iy 1) ∈ Rows.loadMem 1 0 0x10 ∧
    ByteClauses .bc ∧ ByteClauses (.ext 0x1000) ∧ IndexClauses .iy :=
  ⟨List.mem_of_getElem? (i := 0) rfl, List.mem_of_getElem? (i := 2) rfl, List.mem_of_getElem? (i := 23) rfl,
    witness_byte_clauses.1, witness_byte_clauses.2.2.2, witness_index_clauses.2⟩

theorem witness_StoreToMemory : ([0x12], .ld_mde_a, .de, .a) ∈ Rows.storeReg 1 0 0 ∧
    ([0xDD, 0x36, 1, 5], .ld_mixd_n 1 5, .idx .ix 1) ∈ Rows.storeImm 1 5 ∧ ByteClauses .de ∧ IndexClauses .ix :=
  ⟨List.mem_of_getElem? (i := 1) rfl, List.mem_of_getElem? (i := 1) rfl, witness_byte_clauses.2.1, witness_index_clauses.1⟩

theorem witness_LoadSpecialRegisters (s : State) : (([0xED, 0x5F], .ld_a_r, s.r) : List Byte × Instr × Byte) ∈
    ([([0xED, 0x57], .ld_a_i, s.i), ([0xED, 0x5F], .ld_a_r, s.r)] : List (List Byte × Instr × Byte)) :=
  List.mem_of_getElem? (i := 1) rfl

theorem witness_LoadPairs : ([0x31, 0, 0x10], .ld_sp_nn 0x1000, .sp) ∈ Rows.loadPairImm 0 0x10 ∧
    ([0xF9], .ld_sp_hl, .hl) ∈ Rows.loadSp :=
  ⟨List.mem_of_getElem? (i := 3) rfl, List.mem_of_getElem? (i := 0) rfl⟩

theorem witness_LoadPairsFromMemory :
    ([0x2A, 0xFF, 0x0F], .ld_hl_mnn false 0x0FFF, .hl) ∈ Rows.loadPairMem 0xFF 0x0F ∧
    ([0xED, 0x7B, 0xFF, 0xFF], .ld_sp_mnn 0xFFFF, .sp) ∈ Rows.loadPairMem 0xFF 0xFF ∧ WordClauses (·.sp) :=
  ⟨List.mem_of_getElem? (i := 0) rfl, List.mem_of_getElem? (i := 4) rfl, witness_word_clauses.1⟩

theorem witness_StorePairsToMemory :
    ([0x22, 0xFE, 0x0F], .ld_mnn_hl false 0x0FFE, .hl) ∈ Rows.storePair 0xFE 0x0F ∧
    ([0xFD, 0x22, 0xFF, 0xFF], .ld_mnn_iy 0xFFFF, .iy) ∈ Rows.storePair 0xFF 0xFF ∧ WordClauses (·.sp) :=
  ⟨List.mem_of_getElem? (i := 0) rfl, List.mem_of_getElem? (i := 6) rfl, witness_word_clauses.1⟩

theorem witness_ExchangeStackTop : ([0xE3], .ex_msp_hl, .hl) ∈ Rows.exTop ∧ WordClauses (·.sp) :=
  ⟨List.mem_of_getElem? (i := 0) rfl, witness_word_clauses.1⟩

theorem witness_AddToAccumulator : ([0x80], .add_a_b, .reg .b) ∈ Rows.add 1 5 ∧ ([0x8E], .adc_a_mhl, .mem .hl) ∈ Rows.adc 1 5 ∧
    ([0xCE, 5], .adc_a_n 5, .imm 5) ∈ Rows.adc 1 5 ∧ ByteClauses .hl :=
  ⟨List.mem_of_getElem? (i := 0) rfl, List.mem_of_getElem? (i := 6) rfl, List.mem_of_getElem? (i := 8) rfl,
    witness_byte_clauses.2.2.1⟩

theorem witness_SubtractFromAccumulator : ([0x97], .sub_a, .reg .a) ∈ Rows.sub 1 5 ∧
    ([0xDD, 0x9E, 1], .sbc_a_mixd 1, .mem (.idx .ix 1)) ∈ Rows.sbc 1 5 ∧ IndexClauses .ix :=
  ⟨List.mem_of_getElem? (i := 7) rfl, List.mem_of_getElem? (i := 11) rfl, witness_index_clauses.1⟩

theorem witness_CompareAccumulator : ([0xFE, 5], .cp_n 5, .imm 5) ∈ Rows.cp 1 5 ∧
    ([0xFD, 0xBE, 1], .cp_miyd 1, .mem (.idx .iy 1)) ∈ Rows.cp 1 5 ∧ IndexClauses .iy :=
  ⟨List.mem_of_getElem? (i := 8) rfl, List.mem_of_getElem? (i := 14) rfl, witness_index_clauses.2⟩

theorem witness_LogicAccumulator : ([0xA6], .and_mhl, .mem .hl) ∈ Rows.and 1 5 ∧ ([0xB0], .or_b, .reg .b) ∈ Rows.or 1 5 ∧
    ([0xEE, 5], .xor_n 5, .imm 5) ∈ Rows.xor 1 5 ∧ ByteClauses .hl :=
  ⟨List.mem_of_getElem? (i := 6) rfl, List.mem_of_getElem? (i := 0) rfl, List.mem_of_getElem? (i := 8) rfl,
    witness_byte_clauses.2.2.1⟩

theorem witness_StepRegister : ([0x3C], .inc_a, .a) ∈ Rows.incReg ∧ ([0xFD, 0x2D], .dec_iyl, .iyl) ∈ Rows.decReg :=
  ⟨List.mem_of_getElem? (i := 6) rfl, List.mem_of_getElem? (i := 10) rfl⟩

theorem witness_StepMemory : ([0x34], .inc_mhl, .hl) ∈ Rows.incMem 1 ∧ ([0xDD, 0x35, 1], .dec_mixd 1, .idx .ix 1) ∈ Rows.decMem 1 ∧
    ByteClauses .hl ∧ IndexClauses .ix :=
  ⟨List.mem_of_getElem? (i := 0) rfl, List.mem_of_getElem? (i := 1) rfl, witness_byte_clauses.2.2.1, witness_index_clauses.1⟩

theorem witness_PairArithmetic : ([0xDD, 0x29], .add_ix_ix, .ix, .ix) ∈ Rows.addPair ∧ ([0xED, 0x7A], .adc_hl_sp, .sp) ∈ Rows.adcHl ∧
    ([0xED, 0x62], .sbc_hl_hl, .hl) ∈ Rows.sbcHl :=
  ⟨List.mem_of_getElem? (i := 6) rfl, List.mem_of_getElem? (i := 3) rfl, List.mem_of_getElem? (i := 2) rfl⟩

theorem witness_StepPairs : ([0x33], .inc_sp, .sp) ∈ Rows.incPair ∧ ([0xFD, 0x2B], .dec_iy, .iy) ∈ Rows.decPair :=
  ⟨List.mem_of_getElem? (i := 3) rfl, List.mem_of_getElem? (i := 5) rfl⟩

theorem witness_AccumulatorAndCarry : ([0xED, 0x7C], .neg 7) ∈ Rows.neg := List.mem_of_getElem? (i := 7) rfl

theorem witness_PushPairs : ([0xF5], .push_af, .af) ∈ Rows.push ∧ StackClauses (·.sp - 1) (·.sp - 2) :=
  ⟨List.mem_of_getElem? (i := 3) rfl, witness_stack_clauses.1⟩

theorem witness_PopPairs : ([0xF1], .pop_af, .af) ∈ Rows.pop ∧ StackClauses (·.sp) (·.sp + 1) :=
  ⟨List.mem_of_getElem? (i := 3) rfl, witness_stack_clauses.2.1⟩

theorem witness_Jumps : ([0xCA, 0, 0x10], .jp_z_nn 0x1000, .z) ∈ Rows.jumpIf 0 0x10 ∧
    ([0x38, 0xFB], .jr_c_e 0xFB, .c) ∈ Rows.jumpRelIf 0xFB ∧ ([0xE9], .jp_mhl, .hl) ∈ Rows.jumpPair :=
  ⟨List.mem_of_getElem? (i := 1) rfl, List.mem_of_getElem? (i := 3) rfl, List.mem_of_getElem? (i := 0) rfl⟩

theorem witness_Calls : ([0xC4, 0, 0x10], .call_nz_nn 0x1000, .nz) ∈ Rows.callIf 0 0x10 ∧ State.reset.cond .nz = true ∧
    State.reset.cond .z = false ∧ ([0xFF], .rst_38h, 0x38) ∈ Rows.rst ∧ StackClauses (·.sp - 1) (·.sp - 2) :=
  ⟨List.mem_of_getElem? (i := 0) rfl, by decide, by decide, List.mem_of_getElem? (i := 7) rfl, witness_stack_clauses.1⟩

theorem witness_Returns : ([0xF8], .ret_m, .m) ∈ Rows.retIf ∧ State.reset.cond .m = false ∧
    ({ State.reset with f := 0x80 } : State).cond .m = true ∧ ([0xED, 0x45], .retn 0) ∈ Rows.retInt ∧
    StackClauses (·.sp) (·.sp + 1) :=
  ⟨List.mem_of_getElem? (i := 7) rfl, by decide, by decide, List.mem_of_getElem? (i := 0) rfl, witness_stack_clauses.2.1⟩

theorem witness_CpuControl : ([0xED, 0x7E], .im_2 7, 2) ∈ Rows.im := List.mem_of_getElem? (i := 7) rfl

theorem witness_BitTests : ([0xCB, 0x7F], .bit_7_a, 7, .a) ∈ Rows.bitReg ∧ ([0xCB, 0x46], .bit_0_mhl, 0) ∈ Rows.bitHl ∧
    ([0xDD, 0xCB, 1, 0x40], .bit_0_mixd 1 0, 0, .ix) ∈ Rows.bitIdx 1 ∧ ByteClauses .hl ∧ IndexClauses .ix :=
  ⟨List.mem_of_getElem? (i := 55) rfl, List.mem_of_getElem? (i := 0) rfl, List.mem_of_getElem? (i := 0) rfl,
    witness_byte_clauses.2.2.1, witness_index_clauses.1⟩

theorem witness_SetResRegister : ([0xCB, 0xFF], .set_7_a, 7, .a) ∈ Rows.setReg ∧ ([0xCB, 0x80], .res_0_b, 0, .b) ∈ Rows.resReg :=
  ⟨List.mem_of_getElem? (i := 55) rfl, List.mem_of_getElem? (i := 0) rfl⟩

theorem witness_SetResMemory : ([0xCB, 0xC6], .set_0_mhl, 0, .hl, none) ∈ Rows.setMem 1 ∧
    ([0xDD, 0xCB, 1, 0x80], .res_0_mixd_b 1, 0, .idx .ix 1, some .b) ∈ Rows.resMem 1 ∧ ByteClauses .hl ∧ IndexClauses .ix :=
  ⟨List.mem_of_getElem? (i := 0) rfl, List.mem_of_getElem? (i := 8) rfl, witness_byte_clauses.2.2.1, witness_index_clauses.1⟩

theorem witness_RotateRegisters : ([0x07], .rlca, .rlc) ∈ Rows.rotA ∧ ([0xCB, 0x00], .rlc_b, .rlc, .b) ∈ Rows.rotReg :=
  ⟨List.mem_of_getElem? (i := 0) rfl, List.mem_of_getElem? (i := 0) rfl⟩

theorem witness_RotateMemory : ([0xCB, 0x06], .rlc_mhl, .rlc, .hl, none) ∈ Rows.rotMem 1 ∧
    ([0xDD, 0xCB, 1, 0x00], .rlc_mixd_b 1, .rlc, .idx .ix 1, some .b) ∈ Rows.rotMem 1 ∧ ByteClauses .hl ∧ IndexClauses .ix :=
  ⟨List.mem_of_getElem? (i := 0) rfl, List.mem_of_getElem? (i := 8) rfl, witness_byte_clauses.2.2.1, witness_index_clauses.1⟩

/-- The hypotheses of RotateDecimal are equations that name the instruction and its two functions. -/
theorem witness_RotateDecimal : (([0xED, 0x67], .rrd) : List Byte × Instr) = ([0xED, 0x67], .rrd) ∧ ByteClauses .hl :=
  ⟨rfl, witness_byte_clauses.2.2.1⟩

theorem witness_PortTransfers : ([0xED, 0x70], .in_mc, none) ∈ Rows.inPort ∧ ([0xED, 0x61], .out_mc_h, .h) ∈ Rows.outReg :=
  ⟨List.mem_of_getElem? (i := 6) rfl, List.mem_of_getElem? (i := 4) rfl⟩

theorem witness_BlockTransferStep : (([0xED, 0xA8], .ldd, .down) : List Byte × Instr × Dir) ∈
    ([([0xED, 0xA0], .ldi, .up), ([0xED, 0xA8], .ldd, .down)] : List (List Byte × Instr × Dir)) ∧
    StackClauses (·.pair .hl) (·.pair .de) :=
  ⟨List.mem_of_getElem? (i := 1) rfl, witness_stack_clauses.2.2⟩

theorem witness_BlockSearchStep : (([0xED, 0xA1], .cpi, .up) : List Byte × Instr × Dir) ∈
    ([([0xED, 0xA1], .cpi, .up), ([0xED, 0xA9], .cpd, .down)] : List (List Byte × Instr × Dir)) ∧ ByteClauses .hl :=
  ⟨List.mem_of_getElem? (i := 0) rfl, witness_byte_clauses.2.2.1⟩

theorem witness_BlockIoStep : (([0xED, 0xA2], .ini, .up) : List Byte × Instr × Dir) ∈
    ([([0xED, 0xA2], .ini, .up), ([0xED, 0xAA], .ind, .down)] : List (List Byte × Instr × Dir)) ∧
    (([0xED, 0xAB], .outd, .down) : List Byte × Instr × Dir) ∈
    ([([0xED, 0xA3], .outi, .up), ([0xED, 0xAB], .outd, .down)] : List (List Byte × Instr × Dir)) ∧ ByteClauses .hl :=
  ⟨List.mem_of_getElem? (i := 0) rfl, List.mem_of_getElem? (i := 1) rfl, witness_byte_clauses.2.2.1⟩

/-- `BC` at one (one move) and zero (65536 moves) in a full memory; and the second byte missing, of the source and of the
destination. -/
theorem witness_BlockTransferRepeat :
    (([0xED, 0xB0], .ldir, .up) : List Byte × Instr × Dir) ∈
      ([([0xED, 0xB0], .ldir, .up), ([0xED, 0xB8], .lddr, .down)] : List (List Byte × Instr × Dir)) ∧
    (wordCount { State.reset with c := 1 } = 1 ∧ wordCount State.reset = 65536) ∧
    (∀ k, k < wordCount State.reset →
      State.reset.inMem (reach .up (State.reset.pair .hl) k) ∧ State.reset.inMem (reach .up (State.reset.pair .de) k)) ∧
    (let s := { at16 small 0x0FFF with b := 0, c := 2, d := 0, e := 0 }
     1 < wordCount s ∧ (s.inMem (reach .up (s.pair .hl) 0) ∧ s.inMem (reach .up (s.pair .de) 0)) ∧
       ¬ s.inMem (reach .up (s.pair .hl) 1)) ∧
    (let s := { at16 small 0x0FFF with b := 0, c := 2, h := 0, l := 0 }
     1 < wordCount s ∧ (s.inMem (reach .up (s.pair .hl) 0) ∧ s.inMem (reach .up (s.pair .de) 0)) ∧
       s.inMem (reach .up (s.pair .hl) 1) ∧ ¬ s.inMem (reach .up (s.pair .de) 1)) := by
  refine ⟨List.mem_of_getElem? (i := 0) rfl, ⟨rfl, rfl⟩, fun k _ => ⟨full_inMem _ _ rfl, full_inMem _ _ rfl⟩, ?_, ?_⟩ <;> decide

/-- A search that ends at its first byte, one that ends when the count 65536 is used up, and one that reaches a missing
byte. -/
theorem witness_BlockSearchRepeat :
    (([0xED, 0xB9], .cpdr, .down) : List Byte × Instr × Dir) ∈
      ([([0xED, 0xB1], .cpir, .up), ([0xED, 0xB9], .cpdr, .down)] : List (List Byte × Instr × Dir)) ∧
    (1 ≤ wordCount State.reset ∧ (∀ k, k < 1 → State.reset.inMem (reach .up (State.reset.pair .hl) k)) ∧
      (∀ k, k + 1 < 1 → State.reset.mem.read (reach .up (State.reset.pair .hl) k).toNat ≠ State.reset.a) ∧
      State.reset.mem.read (reach .up (State.reset.pair .hl) (1 - 1)).toNat = State.reset.a) ∧
    (let s := { State.reset with a := 1 }
     wordCount s = 65536 ∧ (∀ k, k < 65536 → s.inMem (reach .down (s.pair .hl) k)) ∧
       ∀ k, k + 1 < 65536 → s.mem.read (reach .down (s.pair .hl) k).toNat ≠ s.a) ∧
    (let s := { at16 small 0x0FFF with a := 1 }
     1 < wordCount s ∧ (s.inMem (reach .up (s.pair .hl) 0) ∧ s.mem.read (reach .up (s.pair .hl) 0).toNat ≠ s.a) ∧
       ¬ s.inMem (reach .up (s.pair .hl) 1)) := by
  refine ⟨List.mem_of_getElem? (i := 1) rfl,
    ⟨by decide, fun k _ => full_inMem _ _ rfl, fun k h => absurd h (by omega), rfl⟩,
    ⟨rfl, fun k _ => full_inMem _ _ rfl, fun k _ => ?_⟩, by decide⟩
  show (0 : Byte) ≠ 1
  decide

/-- `B` at one and at zero (256 transfers) in a full memory, and the second byte missing. -/
theorem witness_BlockIoRepeat :
    (([0xED, 0xB2], .inir, .up) : List Byte × Instr × Dir) ∈
      ([([0xED, 0xB2], .inir, .up), ([0xED, 0xBA], .indr, .down)] : List (List Byte × Instr × Dir)) ∧
    (([0xED, 0xBB], .otdr, .down) : List Byte × Instr × Dir) ∈
      ([([0xED, 0xB3], .otir, .up), ([0xED, 0xBB], .otdr, .down)] : List (List Byte × Instr × Dir)) ∧
    (byteCount { State.reset with b := 1 } = 1 ∧ byteCount State.reset = 256) ∧
    (∀ k, k < byteCount State.reset → State.reset.inMem (reach .down (State.reset.pair .hl) k)) ∧
    (let s := { at16 small 0x0FFF with b := 2 }
     1 < byteCount s ∧ s.inMem (reach .up (s.pair .hl) 0) ∧ ¬ s.inMem (reach .up (s.pair .hl) 1)) := by
  refine ⟨List.mem_of_getElem? (i := 0) rfl, List.mem_of_getElem? (i := 1) rfl, ⟨rfl, rfl⟩,
    fun k _ => full_inMem _ _ rfl, by decide⟩

theorem witness_DecodeEncode : WellFormed (.bit_7_miyd 0xFF 7) ∧ WellFormed (.retn 7) ∧ WellFormed (.ld_hl_mnn true 0xFFFF) := by
  decide

theorem witness_EncodeDecode : decode [0xDD, 0xCB, 0xFF, 0x06, 0x12] = .ok (.rlc_mixd 0xFF, [0x12]) := rfl

theorem witness_IllegalEncodings : edLegal 0x3F = false ∧ edLegal 0x77 = false ∧ edLegal 0xBC = false ∧ edLegal 0x40 = true ∧
    xyLegal 0xDD = false ∧ xyLegal 0xCB = true ∧ decode [0xED, 0x77, 0x00] = .error (.illegal 0xED 0x77) := by
  refine ⟨?_, ?_, ?_, ?_, ?_, ?_, rfl⟩ <;> decide

theorem witness_StepRunsDecoded :
    let s := { State.reset with pc := 0xFFFE }.placeBytes 0xFFFE [0xDD, 0x36, 0x01, 0x02]
    s.status = .run ∧ IsCode [0xDD, 0x36, 0x01, 0x02] (.ld_mixd_n 1 2) ∧ CodeAtPc s [0xDD, 0x36, 0x01, 0x02] := by
  refine ⟨rfl, fun _ => rfl, ?_⟩
  unfold CodeAtPc
  decide

/-- A missing second byte, a missing last byte, and two bytes that are no encoding. -/
theorem witness_FetchFaults :
    (let s := { small with pc := 0x0FFF }.placeBytes 0x0FFF [0x3E]
     IsCode [0x3E, 0x05] (.ld_a_n 5) ∧ CodeAtPc s [0x3E] ∧ ¬ s.inMem (s.pc + BitVec.ofNat 16 1)) ∧
    (let s := { small with pc := 0x0FFD }.placeBytes 0x0FFD [0xDD, 0xCB, 0x01]
     IsCode [0xDD, 0xCB, 0x01, 0x06] (.rlc_mixd 1) ∧ CodeAtPc s [0xDD, 0xCB, 0x01] ∧ ¬ s.inMem (s.pc + BitVec.ofNat 16 3)) ∧
    CodeAtPc (State.reset.placeBytes 0 [0xFD, 0xED]) [0xFD, 0xED] ∧ xyLegal 0xED = false ∧
    CodeAtPc (State.reset.placeBytes 0 [0xED, 0x00]) [0xED, 0x00] ∧ edLegal 0x00 = false := by
  refine ⟨⟨fun _ => rfl, ?_, by decide⟩, ⟨fun _ => rfl, ?_, by decide⟩, ?_, by decide, ?_, by decide⟩ <;>
    unfold CodeAtPc <;> decide

theorem witness_StepOutcomes :
    ({ small with pc := 0x1000 }.status = .run ∧ ¬ { small with pc := 0x1000 }.inMem 0x1000) ∧
    ({ small with pc := 0x0FFF }.status = .run ∧ { small with pc := 0x0FFF }.inMem 0x0FFF) ∧
    { small with status := .halted }.status ≠ .run := by decide

theorem witness_FullMemoryNeverFaults : State.reset.fullMemory ∧ ∃ t, step State.reset = .next t := ⟨⟨rfl, rfl⟩, _, rfl⟩

theorem witness_WhoWritesWhat : exec .nop State.reset = .next State.reset ∧ State.reset.status.isFault = false ∧
    State.reset.params.rMode = .frozen ∧
    exec .exx { small with params := { standardParams with rMode := .m1 } } =
      .next { small with params := { standardParams with rMode := .m1 } } :=
  ⟨rfl, rfl, rfl, rfl⟩

theorem witness_ResetInvariant : ({ memSize := 1, addrWrap := .fault, rMode := .m1, undocFlags := .draw } : Params).wf = true ∧
    Memory.wf 1 [(0, 5)] = true ∧ Memory.wf 256 [(0, 1), (255, 2)] = true := by decide

theorem witness_StepKeepsInvariant : State.reset.Inv ∧ step State.reset = .next { State.reset with pc := 1 } := ⟨by decide, rfl⟩

/-- Each clause of RunLoop: out of `RUN`, at the stop address exactly, just below it, with no stop address; and runs that
return, end and go on. -/
theorem witness_RunLoop :
    ({ State.reset with status := .halted } : State).status ≠ .run ∧
    (State.reset.status = .run ∧ ∃ x : Word, (some 0 : Option Word) = some x ∧ x.toNat ≤ State.reset.pc.toNat) ∧
    (State.reset.status = .run ∧ ∀ x : Word, (some 1 : Option Word) = some x → State.reset.pc.toNat < x.toNat) ∧
    (∀ x : Word, (none : Option Word) = some x → State.reset.pc.toNat < x.toNat) ∧
    run (some 1) 2 State.reset = .stopped { State.reset with pc := 1 } ∧
    run none 2 (State.reset.placeBytes 0 [0x76]) = .ended { State.reset.placeBytes 0 [0x76] with pc := 1, status := .halted } ∧
    run (some 2) 1 State.reset = .running { State.reset with pc := 1 } := by
  refine ⟨by decide, ⟨rfl, 0, rfl, by decide⟩, ⟨rfl, ?_⟩, ?_, rfl, rfl, rfl⟩
  · rintro x ⟨⟩; decide
  · rintro x ⟨⟩

/-- Each clause of ExecuteOneInstruction: no operand, operands of an unprefixed and of a prefixed row, and `DDCB`. -/
theorem witness_ExecuteOneInstruction :
    { small with status := .eom }.status ≠ .run ∧
    (WellFormed .nop ∧ IsCode [0x00] .nop ∧ encode .nop = [0x00] ∧ CodeAtPc State.reset []) ∧
    (WellFormed (.ld_bc_nn 0) ∧ IsCode [0x01, 0x04, 0x0B] (.ld_bc_nn 0x0B04) ∧ encode (.ld_bc_nn 0) = [0x01, 0, 0] ∧
      (∀ b0 d op, [0x01, 0x04, 0x0B] ≠ [b0, 0xCB, d, op]) ∧ CodeAtPc (State.reset.placeBytes 0 [0x04, 0x0B]) [0x04, 0x0B]) ∧
    (WellFormed (.rlc_mixd 0) ∧ IsCode [0xDD, 0xCB, 0x05, 0x06] (.rlc_mixd 5) ∧
      encode (.rlc_mixd 0) = [0xDD, 0xCB, 0x00, 0x06] ∧ CodeAtPc (State.reset.placeBytes 0 [0x05]) [0x05]) := by
  refine ⟨by decide, ⟨by decide, fun _ => rfl, rfl, fun k h => absurd h (Nat.not_lt_zero k)⟩,
    ⟨by decide, fun _ => rfl, rfl, by simp, ?_⟩, by decide, fun _ => rfl, rfl, ?_⟩ <;>
    unfold CodeAtPc <;> decide

theorem witness_HostRegisters : ((.af', .a', .f') : Name16 × Name8 × Name8) ∈
    ([(.af, .a, .f), (.bc, .b, .c), (.de, .d, .e), (.hl, .h, .l), (.ix, .ixh, .ixl), (.iy, .iyh, .iyl),
      (.af', .a', .f'), (.bc', .b', .c'), (.de', .d', .e'), (.hl', .h', .l')] : List (Name16 × Name8 × Name8)) := by decide

end Sys2Proof.Tests
end

section
/-! PROOFS. The family 10_state.md: the register file and `F`, reset, which instructions write what, and the invariant. -/

namespace Sys2Proof.Laws

open Sys2Proof.Machine

/-! ## The register file, `F`, reset and the host's names -/

theorem toNat_joinBytes (h l : Byte) : (joinBytes h l).toNat = h.toNat * 256 + l.toNat := by
  have hl : l.toNat < 2 ^ 8 := l.isLt
  rw [joinBytes, BitVec.toNat_append, ← Nat.shiftLeft_add_eq_or_of_lt hl, Nat.shiftLeft_eq]

theorem highByte_eq_ofNat (v : Word) : highByte v = BitVec.ofNat 8 (v.toNat / 256) := by
  rw [highByte, BitVec.extractLsb', Nat.shiftRight_eq_div_pow]

theorem lowByte_eq_ofNat (v : Word) : lowByte v = BitVec.ofNat 8 (v.toNat % 256) :=
  BitVec.eq_of_toNat_eq (by simp [lowByte])

/-- Every pair that is two operand registers is `{high, low}`, and writing it writes both halves (10_state.md R23). -/
theorem pair_of_halves (s : State) {p : Pair} {hi lo : Reg8}
    (h : (p, hi, lo) ∈ ([(.bc, .b, .c), (.de, .d, .e), (.hl, .h, .l), (.ix, .ixh, .ixl), (.iy, .iyh, .iyl)] :
      List (Pair × Reg8 × Reg8))) :
    s.pair p = joinBytes (s.reg8 hi) (s.reg8 lo) ∧
    ∀ v, s.setPair p v = (s.setReg8 hi (highByte v)).setReg8 lo (lowByte v) := by
  simp only [List.mem_cons, Prod.mk.injEq, List.not_mem_nil, or_false] at h
  obtain ⟨rfl, rfl, rfl⟩ | ⟨rfl, rfl, rfl⟩ | ⟨rfl, rfl, rfl⟩ | ⟨rfl, rfl, rfl⟩ | ⟨rfl, rfl, rfl⟩ := h <;>
    exact ⟨rfl, fun _ => rfl⟩

/-- Every named 8-bit register reads back what the host wrote, and no other changes. -/
theorem host8_setHost8 (s : State) (n m : Name8) (v : Byte) :
    (s.setHost8 n v).host8 m = if m = n then v else s.host8 m := by
  cases n <;> cases m <;> rfl

theorem host16_setHost16_same (s : State) (n : Name16) (v : Word) : (s.setHost16 n v).host16 n = v := by
  cases n
  case pc | sp => rfl
  all_goals exact joinBytes_halves v

/-- Settles O1: reset is the record of R37's values and the launch's. -/
theorem resetValues : Obligations.ResetValues := by
  intro p x s
  and_intros <;> rfl

/-- Settles O2: a pair is `joinBytes` of its halves, and `highByte` and `lowByte` are the quotient and the remainder by
256. -/
theorem registerFile : Obligations.RegisterFile := by
  refine fun s => ⟨s.reg8_setReg8, toNat_joinBytes _ _, fun p hi lo h => ?_, fun v => ?_, fun _ => ⟨rfl, rfl⟩⟩
  · obtain ⟨hpair, hset⟩ := pair_of_halves s h
    refine ⟨by rw [hpair, toNat_joinBytes], fun v => ?_⟩
    rw [hset, highByte_eq_ofNat, lowByte_eq_ofNat]
  · rw [← highByte_eq_ofNat, ← lowByte_eq_ofNat]
    rfl

/-- Settles O3: the named bits are the bits `Flags.ofByte` reads, and packing and unpacking undo each other. -/
theorem flagPositions : Obligations.FlagPositions := by
  refine ⟨fun x => ?_, fun s => Flags.toByte_ofByte s.f, Flags.ofByte_toByte⟩
  have h := Flags.ofByte_toByte x
  exact ⟨congrArg Flags.s h, congrArg Flags.z h, congrArg Flags.f5 h, congrArg Flags.h h, congrArg Flags.f3 h,
    congrArg Flags.pv h, congrArg Flags.n h, congrArg Flags.c h⟩

/-- A launch with parameters in range and canonical memories starts in the invariant. -/
theorem ofLaunch_inv {p : Params} {x : Launch} (hp : p.wf = true) (hmem : x.mem.wf p.memSize = true)
    (hports : x.ports.wf 256 = true) : (State.ofLaunch p x).Inv :=
  ⟨hp, hmem, hports, by simp [State.ofLaunch]⟩

/-- Settles O56: the model's own launch is one in range with empty memories. -/
theorem resetInvariant : Obligations.ResetInvariant :=
  ⟨ofLaunch_inv (by decide) rfl rfl, fun _ _ => ofLaunch_inv⟩

/-- Settles O60: each name is one field or the two halves of a word. -/
theorem hostRegisters : Obligations.HostRegisters := by
  refine fun s => ⟨host8_setHost8 s, host16_setHost16_same s, fun n hi lo h => ?_, rfl, rfl⟩
  simp only [List.mem_cons, Prod.mk.injEq, List.not_mem_nil, or_false] at h
  obtain ⟨rfl, rfl, rfl⟩ | ⟨rfl, rfl, rfl⟩ | ⟨rfl, rfl, rfl⟩ | ⟨rfl, rfl, rfl⟩ | ⟨rfl, rfl, rfl⟩ | ⟨rfl, rfl, rfl⟩ |
    ⟨rfl, rfl, rfl⟩ | ⟨rfl, rfl, rfl⟩ | ⟨rfl, rfl, rfl⟩ | ⟨rfl, rfl, rfl⟩ := h <;>
    exact ⟨rfl, fun _ => rfl⟩

/-! ## Which elements an operation writes -/

/-- The state elements that few instructions write. `refresh` is `R` through the refreshes that a repeat counts under
`R_MODE = M1` (30_encoding.md R102); `r` is `R` by a load. -/
inductive Part where
  | status | afAlt | mainAlt | i | r | refresh | iff1 | iff2 | im | ports

/-- The parts an operation may write. -/
def writes : Form → List Part
  | .halt => [.status]
  | .exAf => [.afAlt]
  | .exx => [.mainAlt]
  | .loadIA => [.i]
  | .loadRA => [.r]
  | .di | .ei => [.iff1, .iff2]
  | .retInt => [.iff1]
  | .im _ => [.im]
  | .ldRepeat _ | .cpRepeat _ | .inRepeat _ => [.refresh]
  | .outImm _ | .outReg _ | .outZero | .outOnce _ => [.ports]
  | .outRepeat _ => [.refresh, .ports]
  | _ => []

/-- The instructions that may write a part. -/
def Writer (i : Instr) : Part → Prop
  | .status => i = .halt
  | .afAlt => i = .ex_af_af
  | .mainAlt => i = .exx
  | .i => i = .ld_i_a
  | .r => i = .ld_r_a
  | .refresh => i ∈ ([.ldir, .lddr, .cpir, .cpdr, .inir, .indr, .otir, .otdr] : List Instr)
  | .iff1 => i ∈ ([.di, .ei, .reti] : List Instr) ∨ ∃ y, i = .retn y
  | .iff2 => i ∈ ([.di, .ei] : List Instr)
  | .im => ∃ y, i = .im_0 y ∨ i = .im_0_1 y ∨ i = .im_1 y ∨ i = .im_2 y
  | .ports => (∃ n, i = .out_mn_a n) ∨ i ∈ ([.out_mc_0, .outi, .outd, .otir, .otdr] : List Instr) ∨
      ∃ code r, (code, i, r) ∈ Rows.outReg

/-- An instruction whose operation may write a part is one of the part's writers. -/
theorem writer_of_writes (i : Instr) : ∀ p ∈ writes (form i), Writer i p := by
  cases i
  case halt | ex_af_af | exx | ld_i_a | ld_r_a => exact List.forall_mem_singleton.2 rfl
  case di | ei => exact List.forall_mem_cons.2 ⟨.inl (by simp), List.forall_mem_singleton.2 (by simp [Writer])⟩
  case reti => exact List.forall_mem_singleton.2 (.inl (by simp))
  case retn y => exact List.forall_mem_singleton.2 (.inr ⟨y, rfl⟩)
  case im_0 y | im_0_1 y | im_1 y | im_2 y => exact List.forall_mem_singleton.2 ⟨y, by simp⟩
  case ldir | lddr | cpir | cpdr | inir | indr => exact List.forall_mem_singleton.2 (by simp [Writer])
  case otir | otdr =>
    exact List.forall_mem_cons.2 ⟨by simp [Writer], List.forall_mem_singleton.2 (.inr (.inl (by simp)))⟩
  case out_mn_a n => exact List.forall_mem_singleton.2 (.inl ⟨n, rfl⟩)
  case out_mc_0 | outi | outd => exact List.forall_mem_singleton.2 (.inr (.inl (by simp)))
  case out_mc_b | out_mc_c | out_mc_d | out_mc_e | out_mc_h | out_mc_l | out_mc_a =>
    exact List.forall_mem_singleton.2 (.inr (.inr (by simp [Rows.outReg])))
  all_goals exact List.forall_mem_nil _

/-! ## What changes -/

/-- `t` is `s` after writes to the general registers, `F`, `SP`, `PC`, existing cells of memory, the draw counter and the
parts `ps`. -/
structure Changes (ps : List Part) (s t : State) : Prop where
  params : t.params = s.params
  status : .status ∉ ps → t.status = s.status
  afAlt : .afAlt ∉ ps → t.a' = s.a' ∧ t.f' = s.f'
  mainAlt : .mainAlt ∉ ps → t.b' = s.b' ∧ t.c' = s.c' ∧ t.d' = s.d' ∧ t.e' = s.e' ∧ t.h' = s.h' ∧ t.l' = s.l'
  i : .i ∉ ps → t.i = s.i
  r : .r ∉ ps → s.params.rMode = .frozen ∨ .refresh ∉ ps → t.r = s.r
  iff1 : .iff1 ∉ ps → t.iff1 = s.iff1
  iff2 : .iff2 ∉ ps → t.iff2 = s.iff2
  im : .im ∉ ps → t.im = s.im
  ports : .ports ∉ ps → t.ports = s.ports
  memWf : s.mem.wf s.params.memSize = true → t.mem.wf t.params.memSize = true
  portsWf : s.ports.wf 256 = true → t.ports.wf 256 = true

variable {ps : List Part} {s t u : State}

theorem Changes.trans (h : Changes ps s t) (k : Changes ps t u) : Changes ps s u where
  params := k.params.trans h.params
  status n := (k.status n).trans (h.status n)
  afAlt n := by simp only [k.afAlt n, h.afAlt n, and_self]
  mainAlt n := by simp only [k.mainAlt n, h.mainAlt n, and_self]
  i n := (k.i n).trans (h.i n)
  r n m := (k.r n (by rwa [h.params])).trans (h.r n m)
  iff1 n := (k.iff1 n).trans (h.iff1 n)
  iff2 n := (k.iff2 n).trans (h.iff2 n)
  im n := (k.im n).trans (h.im n)
  ports n := (k.ports n).trans (h.ports n)
  memWf := k.memWf ∘ h.memWf
  portsWf := k.portsWf ∘ h.portsWf

/-- What `Keeps` leaves open is `R` and the ports. -/
theorem Keeps.changes (h : Keeps s t) (hr : s.params.rMode = .frozen ∨ .refresh ∉ ps → t.r = s.r)
    (hports : .ports ∉ ps → t.ports = s.ports) : Changes ps s t := by
  obtain ⟨ha, hf, hmain⟩ := h.alternates
  exact ⟨h.params, fun _ => h.status, fun _ => ⟨ha, hf⟩, fun _ => hmain, fun _ => h.i, fun _ => hr, fun _ => h.iff1,
    fun _ => h.iff2, fun _ => h.im, hports, h.memWf, h.portsWf⟩

theorem KeepsAll.changes (h : KeepsAll s t) : Changes ps s t :=
  h.1.changes (fun _ => h.2.1) fun _ => h.2.2

theorem changes_portWrite (hp : .ports ∈ ps) (p v : Byte) : Changes ps s (s.portWrite p v) :=
  (keeps_portWrite s p v).changes (fun _ => rfl) fun n => absurd hp n

theorem changes_outStep (hp : .ports ∈ ps) {dir : Dir} (h : outStep dir s = .ok t) : Changes ps s t :=
  (outStep_keeps h).1.changes (fun _ => (outStep_keeps h).2) fun n => absurd hp n

/-- A repeat writes what its body writes, and `R` by the refreshes between iterations. -/
theorem changes_repeatBlock (hr : .refresh ∈ ps) {body : State → Except AccessFault State} {again : State → Bool}
    (hbody : ∀ {s t}, body s = .ok t → Changes ps s t) (fuel : Nat) (h : repeatBlock body again fuel s = .ok t) :
    Changes ps s t :=
  repeatBlock_keeps (fun s => (KeepsAll.refl s).changes) Changes.trans hbody
    (fun s => (keeps_updateR s 2).changes (fun m => by rw [updateR_frozen s 2 (m.resolve_right (absurd hr))])
      fun _ => by unfold State.updateR; split <;> rfl) fuel h

/-! ## How an operation ends -/

/-- An execute phase that started in `s` ends in a change of the parts `ps` at most, or in fault entry. -/
def Ends (ps : List Part) (s : State) (o : Host.Outcome State Fault Refusal) : Prop :=
  ∀ t, o = .next t → Changes ps s t ∨ ∃ info, t = s.enterFault info

/-- An answer of `x` keeps all that `KeepsAll` names. -/
def Answers (s : State) (x : Except AccessFault State) : Prop := ∀ t, x = .ok t → KeepsAll s t

theorem ends_next (h : Changes ps s t) : Ends ps s (.next t) := by rintro _ ⟨⟩; exact .inl h

theorem ends_finish {len : Nat} {body : Except AccessFault State} (h : ∀ t, body = .ok t → Changes ps s t) :
    Ends ps s (s.finish len body) := fun t ht =>
  (finish_cases ht).imp (h t) fun ⟨_, _, he⟩ => ⟨_, he⟩

theorem keeps_next (h : KeepsAll s t) : Ends ps s (.next t) := ends_next h.changes

theorem keeps_finish {len : Nat} {body : Except AccessFault State} (h : Answers s body) : Ends ps s (s.finish len body) :=
  ends_finish fun t ht => (h t ht).changes

theorem answers_bind {α : Type} {x : Except AccessFault α} {f : α → Except AccessFault State}
    (h : ∀ a, x = .ok a → Answers s (f a)) : Answers s (x >>= f) := fun t ht =>
  let ⟨a, ha, hf⟩ := bind_ok ht
  h a ha t hf

theorem answers_ok (h : KeepsAll s t) : Answers s (.ok t) := by rintro _ ⟨⟩; exact h

/-! ## The shared operations -/

theorem keepsAll_ite {c : Bool} (ht : KeepsAll s t) (hu : KeepsAll s u) : KeepsAll s (if c then t else u) := by
  cases c
  · exact hu
  · exact ht

/-- The shape of the register operations that commit flags. -/
theorem keepsAll_setReg8_setFlags (r : Reg8) (v : Byte) (x : Flags) : KeepsAll s ((s.setReg8 r v).setFlags x) :=
  (keepsAll_setReg8 s r v).trans (keepsAll_setFlags _ x)

/-- The shape of the pair operations that commit flags. -/
theorem keepsAll_setPair_setFlags (p : Pair) (v : Word) (x : Flags) : KeepsAll s ((s.setPair p v).setFlags x) :=
  (keepsAll_setPair s p v).trans (keepsAll_setFlags _ x)

/-- A conditional call or return that is not taken changes nothing. -/
theorem ends_ite {c : Bool} {o : Host.Outcome State Fault Refusal} (h : Ends ps s o) :
    Ends ps s (if c then o else .next s) := by
  cases c
  · exact keeps_next (KeepsAll.refl s)
  · exact h

theorem ends_callTo (len : Nat) (target : Word) : Ends ps s (callTo len target s) :=
  keeps_finish (answers_bind fun _ h => answers_ok ((push16_keeps h).trans (keepsAll_jump _ _)))

theorem ends_retTo (len : Nat) : Ends ps s (retTo len s) :=
  keeps_finish (answers_bind fun _ h => answers_ok ((pop16_keeps h).trans (keepsAll_jump _ _)))

theorem ends_addToA (len : Nat) (src : Src8) (carry : Bool) : Ends ps s (addToA len src carry s) :=
  keeps_finish (answers_bind fun _ _ => answers_ok (keepsAll_setReg8_setFlags _ _ _))

theorem ends_subFromA (len : Nat) (src : Src8) (carry : Bool) : Ends ps s (subFromA len src carry s) :=
  keeps_finish (answers_bind fun _ _ => answers_ok (keepsAll_setReg8_setFlags _ _ _))

theorem ends_logicA (len : Nat) (op : Byte → Byte → Byte) (half : Bool) (src : Src8) :
    Ends ps s (logicA len op half src s) :=
  keeps_finish (answers_bind fun _ _ => answers_ok (keepsAll_setReg8_setFlags _ _ _))

theorem ends_storeToMem (len : Nat) (loc : Loc) (v : Byte) : Ends ps s (storeToMem len loc v s) :=
  keeps_finish (answers_bind fun _ _ _ h => memWrite_keeps h)

theorem ends_mapMem (len : Nat) (f : Byte → Byte) (loc : Loc) (copy : Option Reg8) :
    Ends ps s (mapMem len f loc copy s) :=
  keeps_finish (answers_bind fun _ _ => answers_bind fun _ _ => answers_bind fun _ h =>
    answers_ok ((memWrite_keeps h).trans (keepsAll_copyTo _ _ _)))

theorem ends_rotDecimal (mem' a' : Byte → Byte → Byte) : Ends ps s (rotDecimal mem' a' s) :=
  keeps_finish (answers_bind fun _ _ => answers_bind fun _ h =>
    answers_ok ((memWrite_keeps h).trans (keepsAll_setReg8_setFlags _ _ _)))

/-- Whatever operation runs, it changes its own parts at most, or enters a fault. -/
theorem runForm_ends (f : Form) (s : State) : Ends (writes f) s (runForm f s) :=
  match f with
  | .loadReg _ _ | .loadImm _ _ | .setReg _ _ | .resReg _ _ => keeps_next (keepsAll_setReg8 _ _ _)
  | .loadPair _ _ | .loadSp _ | .incPair _ | .decPair _ => keeps_next (keepsAll_setPair _ _ _)
  | .incReg _ | .decReg _ | .loadAI | .loadAR | .cpl | .neg | .daa | .rotA _ | .rotReg _ _ =>
    keeps_next (keepsAll_setReg8_setFlags _ _ _)
  | .addPair _ _ | .adcHl _ | .sbcHl _ => keeps_next (keepsAll_setPair_setFlags _ _ _)
  | .ccf | .scf | .bitReg _ _ => keeps_next (keepsAll_setFlags _ _)
  | .exDeHl => keeps_next ((keepsAll_setPair _ _ _).trans (keepsAll_setPair _ _ _))
  | .nop => keeps_next (KeepsAll.refl s)
  | .inImm _ => keeps_next (keepsAll_setReg8 s .a _)
  | .inPort _ => keeps_next ((keepsAll_setFlags _ _).trans (keepsAll_copyTo _ _ _))
  | .jump _ | .jumpIf _ _ | .jumpRel _ | .jumpRelIf _ _ | .jumpPair _ =>
    keeps_next (keepsAll_ite (keepsAll_jump s _) (KeepsAll.refl s))
  | .djnz _ => keeps_next (keepsAll_ite ((keepsAll_setReg8 s .b _).trans (keepsAll_jump _ _)) (keepsAll_setReg8 s .b _))
  | .add _ _ | .adc _ _ => ends_addToA _ _ _
  | .sub _ _ | .sbc _ _ => ends_subFromA _ _ _
  | .and _ _ | .or _ _ | .xor _ _ => ends_logicA _ _ _ _
  | .cp _ _ => keeps_finish (answers_bind fun _ _ => answers_ok (keepsAll_setFlags _ _))
  | .storeReg _ _ _ | .storeImm _ _ _ => ends_storeToMem _ _ _
  | .loadMem _ _ _ => keeps_finish (answers_bind fun _ _ => answers_ok (keepsAll_setReg8 _ _ _))
  | .loadPairMem _ _ _ => keeps_finish (answers_bind fun _ _ => answers_ok (keepsAll_setPair _ _ _))
  | .storePair _ _ _ => keeps_finish fun _ h => memWrite16_keeps h
  | .exTop _ _ => keeps_finish (answers_bind fun _ _ => answers_bind fun _ h =>
      answers_ok ((memWrite16_keeps h).trans (keepsAll_setPair _ _ _)))
  | .incMem _ _ | .decMem _ _ => keeps_finish (answers_bind fun _ _ => answers_bind fun _ _ => answers_bind fun _ h =>
      answers_ok ((memWrite_keeps h).trans (keepsAll_setFlags _ _)))
  | .push _ _ => keeps_finish fun _ h => push16_keeps h
  | .pop _ _ => keeps_finish (answers_bind fun _ h => answers_ok ((pop16_keeps h).trans (keepsAll_setPair _ _ _)))
  | .call _ _ => ends_callTo _ _
  | .callIf _ _ => ends_ite (ends_callTo _ _)
  | .ret => ends_retTo _
  | .retIf _ => ends_ite (ends_retTo _)
  | .bitHl _ => keeps_finish (answers_bind fun _ _ => answers_ok (keepsAll_setFlags _ _))
  | .bitIdx _ _ _ => keeps_finish (answers_bind fun _ _ => answers_bind fun _ _ => answers_ok (keepsAll_setFlags _ _))
  | .setMem _ _ _ _ | .resMem _ _ _ _ => ends_mapMem _ _ _ _
  | .rotMem _ _ _ _ => keeps_finish (answers_bind fun _ _ => answers_bind fun _ _ => answers_bind fun _ h =>
      answers_ok ((memWrite_keeps h).trans ((keepsAll_copyTo _ _ _).trans (keepsAll_setFlags _ _))))
  | .rld => (ends_rotDecimal _ _ : Ends _ s (exec_rld s))
  | .rrd => (ends_rotDecimal _ _ : Ends _ s (exec_rrd s))
  | .ldOnce _ => keeps_finish fun _ h => ldStep_keeps h
  | .cpOnce _ => keeps_finish fun _ h => cpStep_keeps h
  | .inOnce _ => keeps_finish fun _ h => inStep_keeps h
  | .ldRepeat _ => ends_finish fun _ h => changes_repeatBlock (by simp [writes]) (fun hb => (ldStep_keeps hb).changes) _ h
  | .cpRepeat _ => ends_finish fun _ h => changes_repeatBlock (by simp [writes]) (fun hb => (cpStep_keeps hb).changes) _ h
  | .inRepeat _ => ends_finish fun _ h => changes_repeatBlock (by simp [writes]) (fun hb => (inStep_keeps hb).changes) _ h
  | .outOnce _ => ends_finish fun _ h => changes_outStep (by simp [writes]) h
  | .outRepeat _ => ends_finish fun _ h =>
      changes_repeatBlock (by simp [writes]) (fun hb => changes_outStep (by simp [writes]) hb) _ h
  | .outImm _ | .outReg _ | .outZero => ends_next (changes_portWrite (by simp [writes]) _ _)
  | .retInt => ends_finish fun t h => by
    obtain ⟨o, ho, h⟩ := bind_ok h
    cases h
    have hk : KeepsAll s (o.2.jump o.1) := (pop16_keeps ho).trans (keepsAll_jump _ _)
    exact { (hk.changes : Changes _ _ _) with iff1 := fun n => absurd (List.mem_singleton_self _) n }
  | .halt | .exAf | .exx | .loadIA | .loadRA | .di | .ei | .im _ => ends_next (by constructor <;> simp [writes])

/-- What an instruction can do: change the parts its operation writes, at most, or enter a fault. -/
theorem exec_ends (i : Instr) (s : State) : Ends (writes (form i)) s (exec i s) := by
  rw [exec_eq_run]
  exact runForm_ends (form i) s

/-! ## The invariant -/

/-- A change keeps the invariant if it leaves `IM` in its range. -/
theorem Changes.inv (h : Changes ps s t) (hs : s.Inv) (him : t.im ≠ 3) : t.Inv := by
  obtain ⟨hp, hmem, hports, -⟩ := hs
  exact ⟨by rwa [h.params], h.memWf hmem, h.portsWf hports, him⟩

theorem enterFault_inv (hs : s.params.wf = true) (info : FaultInfo) : (s.enterFault info).Inv := by
  obtain ⟨hp, hmem, hports, him⟩ := enterFault_keeps s info
  exact ⟨by rwa [hp], by rwa [hp], hports, him⟩

/-- The `im` instructions set 0, 1 or 2 (10_state.md R31). -/
theorem exec_im_ne_three {i : Instr} (hw : Writer i .im) (h : exec i s = .next t) : t.im ≠ 3 := by
  obtain ⟨y, rfl | rfl | rfl | rfl⟩ := hw <;> cases h <;> simp

theorem exec_keeps_inv {i : Instr} (hs : s.Inv) (h : exec i s = .next t) : t.Inv := by
  rcases exec_ends i s t h with hc | ⟨info, rfl⟩
  · refine hc.inv hs ?_
    by_cases hw : .im ∈ writes (form i)
    · exact exec_im_ne_three (writer_of_writes i _ hw) h
    · rw [hc.im hw]; exact hs.2.2.2
  · exact enterFault_inv hs.1 info

theorem fetched_inv (hs : s.Inv) (i : Instr) (len : Nat) : (s.fetched i len).Inv := by
  unfold State.fetched State.updateR
  split <;> exact hs

/-- The four ends of a step that answers (30_encoding.md R95, 60_exceptions.md R370). -/
theorem step_cases (h : step s = .next t) :
    (s.status = .run ∧ ∃ i len, s.fetch = .ok (i, len) ∧ exec i (s.fetched i len) = .next t) ∨
    (s.status = .run ∧ ∃ info, s.fetch = .error info ∧ t = s.enterFault info) ∨
    (s.status = .run ∧ t = { s with status := .eom }) := by
  unfold step at h
  split at h
  · rename_i hrun
    split at h
    · split at h
      · rename_i i len hf
        exact .inl ⟨hrun, i, len, hf, h⟩
      · rename_i info hf
        cases h
        exact .inr (.inl ⟨hrun, info, hf, rfl⟩)
    · cases h
      exact .inr (.inr ⟨hrun, rfl⟩)
  · cases h

/-- Settles O57: the execute phase keeps the invariant by what its operation can change, and fault entry makes it afresh. -/
theorem stepKeepsInvariant : Obligations.StepKeepsInvariant := by
  intro s t hs h
  rcases step_cases h with ⟨-, i, len, -, hx⟩ | ⟨-, info, -, rfl⟩ | ⟨-, rfl⟩
  · exact exec_keeps_inv (fetched_inv hs i len) hx
  · exact enterFault_inv hs.1 info
  · exact hs

/-- Settles O55: each part has its writers only. -/
theorem whoWritesWhat : Obligations.WhoWritesWhat := by
  intro i s t h hfault
  have hw := writer_of_writes i
  rcases exec_ends i s t h with hc | ⟨info, rfl⟩
  · refine ⟨hc.params, fun n => hc.status (mt (hw _) n), fun n => hc.afAlt (mt (hw _) n),
      fun n => hc.mainAlt (mt (hw _) n), fun n => hc.i (mt (hw _) n), fun hdi hei => hc.iff2 (mt (hw _) ?_),
      fun hdi hei hreti hretn => hc.iff1 (mt (hw _) ?_), fun n => hc.im (mt (hw _) ?_),
      fun n m => hc.r (mt (hw _) n) (m.imp_right fun hrep => mt (hw _) ?_),
      fun hn hports hrow => hc.ports (mt (hw _) ?_)⟩
    · simp [Writer, hdi, hei]
    · simp [Writer, hdi, hei, hreti, hretn]
    · simp [Writer, n]
    · simp [Writer, hrep]
    · simpa [Writer, hn, hrow] using hports
  · cases hfault

end Sys2Proof.Laws
end

section
/-! PROOFS. The family 20_memory.md: effective addresses, the cells of memory and ports, and the 16-bit access. -/

namespace Sys2Proof.Laws

open Sys2Proof.Machine Sys2Proof.Claims

/-! ## Addresses -/

/-- An indexed sum modulo 65536 is word addition of the sign-extended displacement (20_memory.md R59). -/
theorem ofInt_base_add_toInt (base : Word) (d : Byte) :
    BitVec.ofInt 16 (base.toNat + d.toInt) = base + d.signExtend 16 := by
  rw [BitVec.ofInt_add, BitVec.ofInt_natCast, BitVec.ofNat_toNat, BitVec.setWidth_eq, BitVec.signExtend]

theorem ofInt_toNat_add_one (a : Word) : BitVec.ofInt 16 (a.toNat + 1) = a + 1 := by
  rw [BitVec.ofInt_add, BitVec.ofInt_natCast, BitVec.ofNat_toNat, BitVec.setWidth_eq]
  rfl

theorem effAddr_idx (s : State) (x : Idx) (d : Byte) :
    s.effAddr (.idx x d) = s.resolve ((s.pair x.pair).toNat + d.toInt) := rfl

/-- An exact address `x` that is `w` modulo 65536: `w` under `WRAP`; under `FAULT`, `w` inside the address space and
`OutOfRange` at `x` outside it (20_memory.md R56). -/
theorem resolve_cases (s : State) {x : Int} {w : Word} (hw : BitVec.ofInt 16 x = w) :
    (s.params.addrWrap = .wrap → s.resolve x = .ok w) ∧
    (s.params.addrWrap = .fault → 0 ≤ x → x ≤ 65535 → s.resolve x = .ok w) ∧
    (s.params.addrWrap = .fault → x < 0 ∨ 65535 < x → s.resolve x = .error ⟨.mem, x⟩) := by
  subst hw
  exact ⟨fun h => resolve_wrap s h x, fun _ => resolve_inside s, fun h => resolve_outside s h⟩

/-- The address after `a`: only that of 0xFFFF is outside the address space. -/
theorem addrNext_cases (s : State) (a : Word) :
    (s.params.addrWrap = .wrap → s.addrNext a = .ok (a + 1)) ∧
    (s.params.addrWrap = .fault → a ≠ 0xFFFF → s.addrNext a = .ok (a + 1)) ∧
    (s.params.addrWrap = .fault → a = 0xFFFF → s.addrNext a = .error ⟨.mem, 65536⟩) := by
  obtain ⟨hwrap, hinside, houtside⟩ := resolve_cases s (ofInt_toNat_add_one a)
  refine ⟨hwrap, fun hf hne => hinside hf (by omega) ?_, fun hf he => ?_⟩
  · bv_omega
  · subst he
    exact houtside hf (.inr (by decide))

/-- Settles O4: the indexed sum and the address after an address both go through `State.resolve`. -/
theorem effectiveAddresses : Obligations.EffectiveAddresses := by
  intro s
  refine ⟨rfl, rfl, rfl, fun _ => rfl, fun x d => ?_, addrNext_cases s⟩
  have hsum := resolve_cases s (ofInt_base_add_toInt (s.pair x.pair) d)
  rw [← effAddr_idx] at hsum
  cases x <;> exact hsum

/-! ## Cells -/

/-- A byte store changes memory only, and there the one cell. -/
theorem storeByte_stored (s : State) (a : Word) (v : Byte) :
    s.storeByte a v = { s with mem := (s.storeByte a v).mem } ∧ Stored s (s.storeByte a v) a v :=
  ⟨rfl, fun k => Memory.read_write s.mem a.toNat k v⟩

theorem memRead_storeByte_same {s : State} {a : Word} (v : Byte) (h : s.inMem a) :
    (s.storeByte a v).memRead a = .ok v := by
  have hread := memRead_present (s := s.storeByte a v) h
  rwa [(storeByte_stored s a v).2, if_pos rfl] at hread

theorem memRead_storeByte_ne (s : State) {a b : Word} (v : Byte) (h : b ≠ a) :
    (s.storeByte a v).memRead b = s.memRead b := by
  unfold State.memRead
  rw [(storeByte_stored s a v).2, if_neg (mt BitVec.eq_of_toNat_eq h)]
  rfl

theorem portRead_portWrite (s : State) (p q v : Byte) :
    (s.portWrite p v).portRead q = if q = p then v else s.portRead q := by
  unfold State.portRead
  rw [State.portWrite_ports, Memory.read_write]
  simp only [BitVec.toNat_inj]

/-- Settles O5: read after write, in memory below `MEM_SIZE` and in the ports. -/
theorem cellArrays : Obligations.CellArrays := by
  intro s a v
  refine ⟨fun h => ⟨memRead_present h, s.storeByte a v, memWrite_present h, ?_⟩,
    fun h => ⟨memRead_missing h, memWrite_missing h⟩, fun p => ⟨s.portWrite p v, rfl, rfl, ?_, fun q hq => ?_⟩⟩
  · obtain ⟨hframe, hstored⟩ := storeByte_stored s a v
    exact ⟨hframe, hstored, memRead_storeByte_same v h, fun b => memRead_storeByte_ne s v⟩
  · rw [portRead_portWrite, if_pos rfl]
  · rw [portRead_portWrite, if_neg hq]

/-! ## Words -/

/-- A word read: the low byte's address missing, the sum refused, the high byte's address missing, or both bytes read. -/
theorem memRead16_cases (s : State) (a : Word) :
    (¬ s.inMem a → s.memRead16 a = .error ⟨.mem, a.toNat⟩) ∧
    (∀ e, s.inMem a → s.addrNext a = .error e → s.memRead16 a = .error e) ∧
    (∀ b, s.inMem a → s.addrNext a = .ok b → ¬ s.inMem b → s.memRead16 a = .error ⟨.mem, b.toNat⟩) ∧
    (∀ b, s.inMem a → s.addrNext a = .ok b → s.inMem b →
      s.memRead16 a = .ok (joinBytes (s.mem.read b.toNat) (s.mem.read a.toNat))) := by
  have key : s.memRead16 a = s.memRead a >>= fun low => s.addrNext a >>= fun b => s.memRead b >>= fun high =>
    .ok (joinBytes high low) := rfl
  have hsecond (ha : s.inMem a) : s.memRead16 a = s.addrNext a >>= fun b => s.memRead b >>= fun high =>
      .ok (joinBytes high (s.mem.read a.toNat)) := by
    rw [key, memRead_present ha]; rfl
  have hhigh {b : Word} (ha : s.inMem a) (hb : s.addrNext a = .ok b) : s.memRead16 a = s.memRead b >>= fun high =>
      .ok (joinBytes high (s.mem.read a.toNat)) := by
    rw [hsecond ha, hb]; rfl
  refine ⟨fun ha => ?_, fun e ha he => ?_, fun b ha hb hb' => ?_, fun b ha hb hb' => ?_⟩
  · rw [key, memRead_missing ha]; rfl
  · rw [hsecond ha, he]; rfl
  · rw [hhigh ha hb, memRead_missing hb']; rfl
  · rw [hhigh ha hb, memRead_present hb']; rfl

/-- Two byte stores change memory only, and there the two cells; the second one wins where they are the same cell. -/
theorem storeByte_storeByte_storedWord (s : State) (a b : Word) (low high : Byte) :
    StoredWord s ((s.storeByte a low).storeByte b high) a b low high := fun k => by
  rw [(storeByte_stored _ b high).2, (storeByte_stored s a low).2]

/-- Settles O6: the cases of the word read and of the word write, side by side. -/
theorem wordAccess : Obligations.WordAccess := by
  intro s a b v
  obtain ⟨rLow, rNext, rHigh, rBoth⟩ := memRead16_cases s a
  obtain ⟨wLow, wNext, wHigh, wBoth⟩ := memWrite16_cases s a v
  refine ⟨fun ha hb hb' => ⟨⟨_, rBoth b ha hb hb', toNat_joinBytes _ _⟩, _, wBoth b ha hb hb', rfl, ?_⟩,
    fun ha => ⟨rLow ha, wLow ha⟩, fun e ha he => ⟨rNext e ha he, wNext e ha he⟩,
    fun ha hb hb' => ⟨rHigh b ha hb hb', wHigh b ha hb hb'⟩⟩
  rw [← highByte_eq_ofNat]
  exact storeByte_storeByte_storedWord s a b (lowByte v) (highByte v)

end Sys2Proof.Laws
end

section
/-! PROOFS. The family 30_encoding.md: the encoder and the decoder undo each other, the words that are no instruction, and
what a step does with the bytes at `PC`; the jumps. -/

namespace Sys2Proof.Laws

open Sys2Proof.Machine Sys2Proof.Claims

/-! ## Every encoding decodes -/

theorem bitVec3_cases (y : BitVec 3) : y = 0 ∨ y = 1 ∨ y = 2 ∨ y = 3 ∨ y = 4 ∨ y = 5 ∨ y = 6 ∨ y = 7 := by
  revert y; decide

/-- A decoded word operand is the word whose two bytes were read. -/
theorem decode_word_operand {bytes rest : List Byte} {i : Word → Instr} {nn : Word}
    (h : decode bytes = .ok (i (joinBytes (highByte nn) (lowByte nn)), rest)) : decode bytes = .ok (i nn, rest) := by
  rwa [joinBytes_halves] at h

/-- Settles O48: once the bits that choose the opcode byte are literals the decoder computes, and a word operand is put
together from its halves again. -/
theorem decodeEncode : Obligations.DecodeEncode := by
  intro i rest h
  cases i
  case ld_bc_nn nn | ld_de_nn nn | ld_hl_nn nn | ld_sp_nn nn | ld_mnn_a nn | ld_a_mnn nn | jp_nz_nn nn | jp_nn nn |
      call_nz_nn nn | jp_z_nn nn | call_z_nn nn | call_nn nn | jp_nc_nn nn | call_nc_nn nn | jp_c_nn nn | call_c_nn nn |
      jp_po_nn nn | call_po_nn nn | jp_pe_nn nn | call_pe_nn nn | jp_p_nn nn | call_p_nn nn | jp_m_nn nn |
      call_m_nn nn | ld_mnn_bc nn | ld_bc_mnn nn | ld_mnn_de nn | ld_de_mnn nn | ld_mnn_sp nn | ld_sp_mnn nn |
      ld_ix_nn nn | ld_mnn_ix nn | ld_ix_mnn nn | ld_iy_nn nn | ld_mnn_iy nn | ld_iy_mnn nn =>
    exact decode_word_operand rfl
  case ld_mnn_hl ed nn | ld_hl_mnn ed nn => cases ed <;> exact decode_word_operand rfl
  case neg y => obtain rfl | rfl | rfl | rfl | rfl | rfl | rfl | rfl := bitVec3_cases y <;> rfl
  case retn y =>
    obtain rfl | rfl | rfl | rfl | rfl | rfl | rfl : y = 0 ∨ y = 2 ∨ y = 3 ∨ y = 4 ∨ y = 5 ∨ y = 6 ∨ y = 7 := by
      revert y; decide
    all_goals rfl
  case im_0 y =>
    obtain rfl | rfl : y = 0 ∨ y = 4 := by revert y; decide
    all_goals rfl
  case im_0_1 y =>
    obtain rfl | rfl : y = 1 ∨ y = 5 := by revert y; decide
    all_goals rfl
  case im_1 y =>
    obtain rfl | rfl : y = 2 ∨ y = 6 := by revert y; decide
    all_goals rfl
  case im_2 y =>
    obtain rfl | rfl : y = 3 ∨ y = 7 := by revert y; decide
    all_goals rfl
  case bit_0_mixd d y | bit_1_mixd d y | bit_2_mixd d y | bit_3_mixd d y | bit_4_mixd d y | bit_5_mixd d y |
      bit_6_mixd d y | bit_7_mixd d y | bit_0_miyd d y | bit_1_miyd d y | bit_2_miyd d y | bit_3_miyd d y |
      bit_4_miyd d y | bit_5_miyd d y | bit_6_miyd d y | bit_7_miyd d y =>
    obtain rfl | rfl | rfl | rfl | rfl | rfl | rfl | rfl := bitVec3_cases y <;> rfl
  all_goals rfl

/-! ## What the decoder answers at a place of a map -/

/-- The bytes are the encoding of the well-formed instruction `i`, of one to four bytes, and then `rest`. -/
def Spells (bytes : List Byte) (i : Instr) (rest : List Byte) : Prop :=
  WellFormed i ∧ bytes = encode i ++ rest ∧ 1 ≤ (encode i).length ∧ (encode i).length ≤ 4

/-- An encoding of at most one byte before the opcode byte and at most two operand bytes after it. -/
theorem spells_of_encode {front operands rest : List Byte} {op : Byte} {i : Instr} (hfront : front.length ≤ 1)
    (hoperands : operands.length ≤ 2) (h : WellFormed i ∧ encode i = front ++ op :: operands) :
    Spells (front ++ op :: (operands ++ rest)) i rest := by
  obtain ⟨hwf, henc⟩ := h
  refine ⟨hwf, by rw [henc]; simp, ?_, ?_⟩ <;> rw [henc, List.length_append, List.length_cons] <;> omega

section Places

variable {front : List Byte} {none : Byte → Bool} {op b0 b1 : Byte} {stream rest : List Byte} {i : Instr}

/-- An entry takes its own operands and no other byte (30_encoding.md R94). -/
theorem take_spells {e : Entry} (hfront : front.length ≤ 1) (he : EntryEncodes front none op.toNat e)
    (h : e.take b0 b1 stream = .ok (i, rest)) : Spells (front ++ op :: stream) i rest := by
  rw [EntryEncodes.eq_def, BitVec.ofNat_toNat, BitVec.setWidth_eq] at he
  unfold Entry.take at h
  split at h <;> cases h
  · exact spells_of_encode (operands := []) hfront (by simp) he.2
  · exact spells_of_encode (operands := [_]) hfront (by simp) (he.2 _)
  · exact spells_of_encode (operands := [_, _]) hfront (by simp) (by simpa using he.2 (joinBytes _ _))
  · exact spells_of_encode (operands := [_, _]) hfront (by simp) (he.2 _ _)

/-- An entry refuses the bytes of the opcode exactly where there is no instruction (30_encoding.md R93). -/
theorem take_illegal {e : Entry} (he : EntryEncodes front none op.toNat e) (c0 c1 : Byte) :
    e.take b0 b1 stream = .error (.illegal c0 c1) ↔ none op = true ∧ c0 = b0 ∧ c1 = b1 := by
  rw [EntryEncodes.eq_def, BitVec.ofNat_toNat, BitVec.setWidth_eq] at he
  cases e with
  | none => simp [Entry.take, show none op = true from he, eq_comm]
  | op i => simp [Entry.take, he.1]
  | n i => cases stream <;> simp [Entry.take, he.1]
  | nn i | dn i => obtain _ | ⟨_, _ | _⟩ := stream <;> simp [Entry.take, he.1]

variable {m : List (List Entry)} (hm : AllRows (EntryEncodes front none) 0 m)
  (hfull : m.length = 16 ∧ ∀ r ∈ m, r.length = 16)

include hm hfull

/-- The place of an opcode byte in a full map that agrees with the encoder. -/
theorem takeAt_entry (op : Byte) :
    ∃ e, EntryEncodes front none op.toNat e ∧ ∀ b0 b1 stream, takeAt m b0 b1 op stream = e.take b0 b1 stream := by
  obtain ⟨e, he⟩ := mapAt_total hfull.1 hfull.2 op
  exact ⟨e, mapAt_all hm he, fun _ _ _ => by rw [takeAt, he, Option.getD_some]⟩

theorem takeAt_spells (hfront : front.length ≤ 1) (h : takeAt m b0 b1 op stream = .ok (i, rest)) :
    Spells (front ++ op :: stream) i rest := by
  obtain ⟨e, he, htake⟩ := takeAt_entry hm hfull op
  exact take_spells hfront he (htake _ _ _ ▸ h)

theorem takeAt_illegal (c0 c1 : Byte) :
    takeAt m b0 b1 op stream = .error (.illegal c0 c1) ↔ none op = true ∧ c0 = b0 ∧ c1 = b1 := by
  obtain ⟨e, he, htake⟩ := takeAt_entry hm hfull op
  rw [htake, take_illegal he]

end Places

/-! ## What the decoder answers after `CB`, `ED`, `DD` and `FD` -/

section LongFormats

variable {none : Byte → Bool} {b0 : Byte} {stream rest : List Byte} {i : Instr}
  {cbm : List (List (Byte → Instr))} (hcb : AllRows (CbEncodes b0) 0 cbm)
  (hcbFull : cbm.length = 16 ∧ ∀ r ∈ cbm, r.length = 16)

include hcb hcbFull in
theorem takeIndexedCb_spells (h : takeIndexedCb cbm b0 0xCB stream = .ok (i, rest)) :
    Spells (b0 :: 0xCB :: stream) i rest := by
  obtain _ | ⟨d, _ | ⟨op, stream⟩⟩ := stream
  case cons.cons =>
    obtain ⟨f, hf⟩ := mapAt_total hcbFull.1 hcbFull.2 op
    obtain ⟨hwf, henc⟩ := mapAt_all hcb hf d
    rw [BitVec.ofNat_toNat, BitVec.setWidth_eq] at henc
    rw [takeIndexedCb, hf] at h
    cases h
    exact ⟨hwf, by rw [henc]; rfl, by simp [henc], by simp [henc]⟩
  all_goals cases h

include hcbFull in
theorem takeIndexedCb_not_illegal (b1 c0 c1 : Byte) : takeIndexedCb cbm b0 b1 stream ≠ .error (.illegal c0 c1) := by
  obtain _ | ⟨d, _ | ⟨op, stream⟩⟩ := stream
  case cons.cons =>
    obtain ⟨f, hf⟩ := mapAt_total hcbFull.1 hcbFull.2 op
    simp [takeIndexedCb, hf]
  all_goals simp [takeIndexedCb]

variable {m : List (List Entry)} (hm : AllRows (EntryEncodes [b0] none) 0 m)
  (hfull : m.length = 16 ∧ ∀ r ∈ m, r.length = 16)

include hm hfull

theorem takePrefixed_spells (h : takePrefixed m b0 stream = .ok (i, rest)) : Spells (b0 :: stream) i rest := by
  cases stream with
  | nil => cases h
  | cons b1 stream => exact takeAt_spells hm hfull (by simp) h

theorem takePrefixed_illegal (c0 c1 : Byte) :
    takePrefixed m b0 stream = .error (.illegal c0 c1) ↔ c0 = b0 ∧ (∃ t, stream = c1 :: t) ∧ none c1 = true := by
  cases stream with
  | nil => simp [takePrefixed]
  | cons b1 stream =>
    rw [takePrefixed, takeAt_illegal hm hfull]
    constructor
    · rintro ⟨hnone, rfl, rfl⟩
      exact ⟨rfl, ⟨_, rfl⟩, hnone⟩
    · rintro ⟨rfl, ⟨_, ⟨⟩⟩, hnone⟩
      exact ⟨hnone, rfl, rfl⟩

include hcb hcbFull in
theorem takeIndexed_spells (h : takeIndexed m cbm b0 stream = .ok (i, rest)) : Spells (b0 :: stream) i rest := by
  cases stream with
  | nil => cases h
  | cons b1 stream =>
    rw [takeIndexed] at h
    split at h
    · subst b1
      exact takeIndexedCb_spells hcb hcbFull h
    · exact takeAt_spells hm hfull (by simp) h

include hcbFull in
theorem takeIndexed_illegal (c0 c1 : Byte) :
    takeIndexed m cbm b0 stream = .error (.illegal c0 c1) ↔
      c0 = b0 ∧ (∃ t, stream = c1 :: t) ∧ c1 ≠ 0xCB ∧ none c1 = true := by
  cases stream with
  | nil => simp [takeIndexed]
  | cons b1 stream =>
    rw [takeIndexed]
    split
    · refine iff_of_false (takeIndexedCb_not_illegal hcbFull _ _ _) ?_
      rintro ⟨-, ⟨_, ⟨⟩⟩, hne, -⟩
      contradiction
    · rw [takeAt_illegal hm hfull]
      constructor
      · rintro ⟨hnone, rfl, rfl⟩
        exact ⟨rfl, ⟨_, rfl⟩, ‹_›, hnone⟩
      · rintro ⟨rfl, ⟨_, ⟨⟩⟩, -, hnone⟩
        exact ⟨hnone, rfl, rfl⟩

end LongFormats

/-! ## The decoder by its first byte -/

theorem decode_cb (stream : List Byte) : decode (0xCB :: stream) = takePrefixed cbMap 0xCB stream := rfl
theorem decode_ed (stream : List Byte) : decode (0xED :: stream) = takePrefixed edMap 0xED stream := rfl
theorem decode_dd (stream : List Byte) : decode (0xDD :: stream) = takeIndexed ddMap ddcbMap 0xDD stream := rfl
theorem decode_fd (stream : List Byte) : decode (0xFD :: stream) = takeIndexed fdMap fdcbMap 0xFD stream := rfl

theorem decode_main {b0 : Byte} (h : opensFormatByte b0 = false) (stream : List Byte) :
    decode (b0 :: stream) = takeAt mainMap b0 0 b0 stream := by
  simp only [opensFormatByte, List.contains_eq_mem, List.mem_cons, List.not_mem_nil, or_false, decide_eq_false_iff_not,
    not_or] at h
  obtain ⟨hcb, hdd, hed, hfd⟩ := h
  rw [decode, if_neg hcb, if_neg hed, if_neg hdd, if_neg hfd]

theorem firstByte_cases (b0 : Byte) :
    b0 = 0xCB ∨ b0 = 0xED ∨ b0 = 0xDD ∨ b0 = 0xFD ∨ opensFormatByte b0 = false := by
  revert b0; decide

/-- Settles O49: at each place of each map the operands come out of the bytes the encoder would write there. -/
theorem encodeDecode : Obligations.EncodeDecode := by
  intro bytes rest i h
  change Spells bytes i rest
  cases bytes with
  | nil => cases h
  | cons b0 stream =>
    obtain rfl | rfl | rfl | rfl | hmain := firstByte_cases b0
    · exact takePrefixed_spells cbMap_encodes cbMap_full h
    · exact takePrefixed_spells edMap_encodes edMap_full h
    · exact takeIndexed_spells ddcbMap_encodes ddcbMap_full ddMap_encodes ddMap_full h
    · exact takeIndexed_spells fdcbMap_encodes fdcbMap_full fdMap_encodes fdMap_full h
    · rw [decode_main hmain] at h
      exact takeAt_spells mainMap_encodes mainMap_full (by simp) h

theorem edNone_eq (op : Byte) : edNone op = !edLegal op := rfl

/-- `CB` after `DD` or `FD` opens a longer format (30_encoding.md R92). -/
theorem xyLegal_eq_false (op : Byte) : xyLegal op = false ↔ op ≠ 0xCB ∧ xyNone op = true := by
  simp only [xyLegal, xyNone, Bool.or_eq_false_iff, beq_eq_false_iff_ne, Bool.not_eq_true']

/-- Settles O50: the holes of the `ED`, `DD` and `FD` maps; the other maps have none that the decoder reaches. -/
theorem illegalEncodings : Obligations.IllegalEncodings := by
  intro bytes c0 c1
  cases bytes with
  | nil => simp [decode]
  | cons b0 stream =>
    rw [xyLegal_eq_false]
    obtain rfl | rfl | rfl | rfl | hmain := firstByte_cases b0
    · rw [decode_cb, takePrefixed_illegal cbMap_encodes cbMap_full]
      grind
    · rw [decode_ed, takePrefixed_illegal edMap_encodes edMap_full, edNone_eq]
      grind
    · rw [decode_dd, takeIndexed_illegal ddcbMap_full ddMap_encodes ddMap_full]
      grind
    · rw [decode_fd, takeIndexed_illegal fdcbMap_full fdMap_encodes fdMap_full]
      grind
    · rw [decode_main hmain, takeAt_illegal mainMap_encodes mainMap_full, hmain]
      refine iff_of_false (by simp) ?_
      rintro ⟨⟨_, ⟨⟩⟩, ⟨rfl, -⟩ | ⟨rfl | rfl, -⟩⟩ <;> exact absurd hmain (by decide)

/-! ## Code -/

/-- Settles O47: each word decodes by computation. -/
theorem decodedWords : Obligations.DecodedWords := by
  and_intros <;> rfl

/-- Bytes are an instruction, whatever follows, exactly when they are its encoding (30_encoding.md R93). -/
theorem isCode_iff (code : List Byte) (i : Instr) : IsCode code i ↔ WellFormed i ∧ encode i = code := by
  constructor
  · intro h
    obtain ⟨hwf, hcode, -⟩ := encodeDecode _ _ _ (h [])
    exact ⟨hwf, by simpa using hcode.symm⟩
  · rintro ⟨hwf, rfl⟩ rest
    exact decodeEncode i rest hwf

theorem isCode_length {code : List Byte} {i : Instr} (h : IsCode code i) : 1 ≤ code.length ∧ code.length ≤ 4 := by
  obtain ⟨-, -, hlength⟩ := encodeDecode _ _ _ (h [])
  rwa [((isCode_iff code i).1 h).2] at hlength

/-- What decodes still decodes with more bytes behind it. -/
theorem decode_append_ok {bytes rest : List Byte} {i : Instr} (h : decode bytes = .ok (i, rest)) (more : List Byte) :
    decode (bytes ++ more) = .ok (i, rest ++ more) := by
  obtain ⟨hwf, rfl, -⟩ := encodeDecode _ _ _ h
  rw [List.append_assoc]
  exact decodeEncode i _ hwf

/-- What is no encoding stays none. -/
theorem decode_append_illegal {bytes : List Byte} {b0 b1 : Byte} (h : decode bytes = .error (.illegal b0 b1))
    (more : List Byte) : decode (bytes ++ more) = .error (.illegal b0 b1) := by
  rw [illegalEncodings] at h ⊢
  obtain ⟨⟨rest, rfl⟩, hillegal⟩ := h
  exact ⟨⟨rest ++ more, rfl⟩, hillegal⟩

/-- The bytes of an instruction that end too soon are cut off, not another instruction and not illegal. -/
theorem decode_cut_off {front back : List Byte} {i : Instr} (h : IsCode (front ++ back) i) (hback : back ≠ []) :
    decode front = .error .truncated := by
  have hwhole : decode (front ++ back) = .ok (i, []) := by simpa using h []
  match hfront : decode front with
  | .ok (j, rest) =>
    rw [decode_append_ok hfront] at hwhole
    simp only [Except.ok.injEq, Prod.mk.injEq, List.append_eq_nil_iff] at hwhole
    obtain ⟨-, -, hnil⟩ := hwhole
    exact absurd hnil hback
  | .error (.illegal b0 b1) =>
    rw [decode_append_illegal hfront] at hwhole
    cases hwhole
  | .error .truncated => rfl

/-! ## The fetch -/

section Fetch

variable {s : State} {code : List Byte} {i : Instr}

/-- Nothing is read from an address that does not exist. -/
theorem bytesFrom_missing (n : Nat) {a : Word} (h : ¬ s.inMem a) : s.bytesFrom n a = [] := by
  cases n with
  | zero => rfl
  | succ n => rw [State.bytesFrom, if_neg h]

/-- A fetch reads the bytes that are there. -/
theorem bytesFrom_codeAtPc (hat : CodeAtPc s code) (hlength : code.length ≤ 4) :
    s.bytesFrom longestInstr s.pc =
      code ++ s.bytesFrom (longestInstr - code.length) (s.pc + BitVec.ofNat 16 code.length) :=
  bytesFrom_append hlength hat

theorem fetch_of_isCode (hcode : IsCode code i) (hat : CodeAtPc s code) : s.fetch = .ok (i, code.length) := by
  simp only [State.fetch]
  rw [bytesFrom_codeAtPc hat (isCode_length hcode).2, hcode]
  simp

theorem fetch_of_cut_code {k : Nat} (hcode : IsCode code i) (hk : k < code.length) (hat : CodeAtPc s (code.take k))
    (hmissing : ¬ s.inMem (s.pc + BitVec.ofNat 16 k)) :
    s.fetch = .error (.outOfRange .mem (s.pc + BitVec.ofNat 16 k).toNat s.pc) := by
  have hk' : (code.take k).length = k := by simp; omega
  have hbytes : s.bytesFrom longestInstr s.pc = code.take k := by
    rw [bytesFrom_codeAtPc hat (by have := isCode_length hcode; omega), hk', bytesFrom_missing _ hmissing,
      List.append_nil]
  have htrunc : decode (code.take k) = .error .truncated :=
    decode_cut_off (back := code.drop k) (by rwa [List.take_append_drop]) (by simpa using hk)
  simp only [State.fetch]
  rw [hbytes, htrunc, hk']

theorem fetch_of_illegal {b0 b1 : Byte} (hat : CodeAtPc s [b0, b1])
    (h : b0 = 0xED ∧ edLegal b1 = false ∨ (b0 = 0xDD ∨ b0 = 0xFD) ∧ xyLegal b1 = false) :
    s.fetch = .error (.illegalOpcode b0 b1 s.pc) := by
  simp only [State.fetch]
  rw [bytesFrom_codeAtPc hat (by simp), (illegalEncodings _ b0 b1).2 ⟨⟨_, List.cons_append⟩, h⟩]

/-- Where the first byte of some code is, memory has not ended. -/
theorem inMem_pc_of_codeAtPc (hat : CodeAtPc s code) (hlength : 0 < code.length) : s.inMem s.pc := by
  simpa using (hat 0 hlength).1

end Fetch

/-! ## The step -/

section Step

variable {s : State}

theorem step_of_fetch_ok {i : Instr} {len : Nat} (hrun : s.status = .run) (hpc : s.inMem s.pc)
    (h : s.fetch = .ok (i, len)) : step s = exec i (s.fetched i len) := by
  simp only [step, hrun, if_pos hpc, h, execute]

theorem step_of_fetch_error {info : FaultInfo} (hrun : s.status = .run) (hpc : s.inMem s.pc)
    (h : s.fetch = .error info) : step s = .next (s.enterFault info) := by
  simp only [step, hrun, if_pos hpc, h]

/-- Counting fetches in the low seven bits of `R` is a sum modulo 128 (30_encoding.md R102). -/
theorem updateR_eq (s : State) (n : Nat) : s.updateR n = { s with r := refreshed s n } := by
  have hlow : (s.r + BitVec.ofNat 8 n) &&& 0x7F#8 = BitVec.ofNat 8 ((s.r.toNat + n) % 128) := by
    apply BitVec.eq_of_toNat_eq
    rw [BitVec.toNat_and, show (0x7F#8).toNat = 2 ^ 7 - 1 from rfl, Nat.and_two_pow_sub_one_eq_mod]
    simp
    omega
  unfold State.updateR refreshed
  cases s.params.rMode
  · rfl
  · rw [hlow]

/-- The opcode fetches of an instruction are read off its first byte (30_encoding.md R102). -/
theorem opcodeFetches_eq (i : Instr) :
    i.opcodeFetches = if (encode i).head? ∈ [some 0xCB, some 0xDD, some 0xED, some 0xFD] then 2 else 1 := by
  unfold Instr.opcodeFetches
  cases encode i with
  | nil => rfl
  | cons b0 rest =>
    simp only [List.head?_cons, opensFormat, Bool.or_eq_true, beq_iff_eq, List.mem_cons, Option.some.injEq,
      List.not_mem_nil, or_false]
    congr 1
    grind

end Step

/-- Settles O51: the fetch reads the code and no other byte. -/
theorem stepRunsDecoded : Obligations.StepRunsDecoded := by
  intro s code i hrun hcode hat
  have hfetch := fetch_of_isCode hcode hat
  rw [step_of_fetch_ok hrun (inMem_pc_of_codeAtPc hat (isCode_length hcode).1) hfetch, State.fetched, updateR_eq,
    opcodeFetches_eq, ((isCode_iff code i).1 hcode).2]
  rfl

/-- Settles O52: the bytes that are there are cut off, or begin with a pair that is no encoding. -/
theorem fetchFaults : Obligations.FetchFaults := by
  refine fun s hrun => ⟨fun code i k hcode hk1 hk hat hmissing => ?_, fun b0 b1 hat hillegal => ?_⟩
  · have hpc : s.inMem s.pc := inMem_pc_of_codeAtPc hat (by rw [List.length_take]; omega)
    exact ⟨_, step_of_fetch_error hrun hpc (fetch_of_cut_code hcode hk hat hmissing), rfl⟩
  · exact ⟨_, step_of_fetch_error hrun (inMem_pc_of_codeAtPc hat (by simp)) (fetch_of_illegal hat hillegal), rfl⟩

/-! ## Jumps -/

/-- A jump changes `PC` alone, and that only where it is taken. -/
theorem jumpIf_eq (taken : Bool) (target : Word) (s : State) :
    jumpIf taken target s = .next { s with pc := if taken then target else s.pc } := by
  cases taken <;> rfl

/-- `djnz` steps `B` and falls through where it was 1 (44_control_flow.md R216). -/
theorem decJump_eq (e : Byte) (s : State) :
    decJump e s = .next { s with b := s.b - 1, pc := if s.b = 1 then s.pc else s.pc + e.signExtend 16 } := by
  by_cases h : s.b = 1
  · have hzero : (s.b - 1 != 0) = false := by rw [h]; rfl
    simp only [decJump, hzero, if_pos h]
    rfl
  · have hnonzero : (s.b - 1 != 0) = true := bne_iff_ne.2 (by bv_omega)
    simp only [decJump, hnonzero, if_neg h]
    rfl

/-- Settles O30: every row is `jumpIf` on its condition and target, or `decJump`. -/
theorem jumps : Obligations.Jumps := by
  refine fun s e l h => ⟨⟨rfl, rfl, rfl, rfl, rfl, rfl, rfl, rfl⟩, ⟨fun _ => rfl, rfl⟩, ?_, ⟨fun _ => rfl, rfl⟩, ?_, ?_,
    fun _ => rfl, decJump_eq e s⟩
  · simp only [Rows.jumpIf, List.mem_cons, Prod.mk.injEq, List.not_mem_nil, or_false]
    rintro code i cc (⟨rfl, rfl, rfl⟩ | ⟨rfl, rfl, rfl⟩ | ⟨rfl, rfl, rfl⟩ | ⟨rfl, rfl, rfl⟩ | ⟨rfl, rfl, rfl⟩ |
      ⟨rfl, rfl, rfl⟩ | ⟨rfl, rfl, rfl⟩ | ⟨rfl, rfl, rfl⟩) <;>
      exact ⟨fun _ => rfl, jumpIf_eq _ _ s⟩
  · simp only [Rows.jumpRelIf, List.mem_cons, Prod.mk.injEq, List.not_mem_nil, or_false]
    rintro code i cc (⟨rfl, rfl, rfl⟩ | ⟨rfl, rfl, rfl⟩ | ⟨rfl, rfl, rfl⟩ | ⟨rfl, rfl, rfl⟩) <;>
      exact ⟨fun _ => rfl, jumpIf_eq _ _ s⟩
  · simp only [Rows.jumpPair, List.mem_cons, Prod.mk.injEq, List.not_mem_nil, or_false]
    rintro code i p (⟨rfl, rfl, rfl⟩ | ⟨rfl, rfl, rfl⟩ | ⟨rfl, rfl, rfl⟩) <;> exact ⟨fun _ => rfl, rfl⟩

end Sys2Proof.Laws
end

section
/-! PROOFS. The family 40_load.md: the rows of the load tables, what an access to a memory operand answers, and the loads. -/

namespace Sys2Proof.Laws

open Sys2Proof.Machine Sys2Proof.Claims

/-! ## Rows

In each table every row's bytes decode to its instruction by computation, and the operation is read off `form`. -/

/-- A row of the opcode table: its bytes are the instruction, and the instruction is the operation `f`. -/
structure IsRow (code : List Byte) (i : Instr) (f : Form) : Prop where
  isCode : IsCode code i
  form_eq : form i = f

theorem IsRow.exec_eq {code : List Byte} {i : Instr} {f : Form} (h : IsRow code i f) (s : State) :
    exec i s = runForm f s := by
  rw [exec_eq_run, h.form_eq]

theorem loadReg_rows : ∀ x ∈ Rows.loadReg, IsRow x.1 x.2.1 (.loadReg x.2.2.1 x.2.2.2) :=
  List.forall_iff_forall_mem.1 (by and_intros <;> exact ⟨fun _ => rfl, rfl⟩)

theorem loadImm_rows (n : Byte) : ∀ x ∈ Rows.loadImm n, IsRow x.1 x.2.1 (.loadImm x.2.2 n) :=
  List.forall_iff_forall_mem.1 (by and_intros <;> exact ⟨fun _ => rfl, rfl⟩)

theorem loadMem_rows (d l h : Byte) :
    ∀ x ∈ Rows.loadMem d l h, IsRow x.1 x.2.1 (.loadMem x.1.length x.2.2.1 x.2.2.2) :=
  List.forall_iff_forall_mem.1 (by and_intros <;> exact ⟨fun _ => rfl, rfl⟩)

theorem storeReg_rows (d l h : Byte) :
    ∀ x ∈ Rows.storeReg d l h, IsRow x.1 x.2.1 (.storeReg x.1.length x.2.2.1 x.2.2.2) :=
  List.forall_iff_forall_mem.1 (by and_intros <;> exact ⟨fun _ => rfl, rfl⟩)

theorem storeImm_rows (d n : Byte) : ∀ x ∈ Rows.storeImm d n, IsRow x.1 x.2.1 (.storeImm x.1.length x.2.2 n) :=
  List.forall_iff_forall_mem.1 (by and_intros <;> exact ⟨fun _ => rfl, rfl⟩)

theorem loadPairImm_rows (l h : Byte) :
    ∀ x ∈ Rows.loadPairImm l h, IsRow x.1 x.2.1 (.loadPair x.2.2 (joinBytes h l)) :=
  List.forall_iff_forall_mem.1 (by and_intros <;> exact ⟨fun _ => rfl, rfl⟩)

theorem loadSp_rows : ∀ x ∈ Rows.loadSp, IsRow x.1 x.2.1 (.loadSp x.2.2) :=
  List.forall_iff_forall_mem.1 (by and_intros <;> exact ⟨fun _ => rfl, rfl⟩)

theorem loadPairMem_rows (l h : Byte) :
    ∀ x ∈ Rows.loadPairMem l h, IsRow x.1 x.2.1 (.loadPairMem x.1.length x.2.2 (joinBytes h l)) :=
  List.forall_iff_forall_mem.1 (by and_intros <;> exact ⟨fun _ => rfl, rfl⟩)

theorem storePair_rows (l h : Byte) :
    ∀ x ∈ Rows.storePair l h, IsRow x.1 x.2.1 (.storePair x.1.length (joinBytes h l) x.2.2) :=
  List.forall_iff_forall_mem.1 (by and_intros <;> exact ⟨fun _ => rfl, rfl⟩)

/-! ## The accesses of a memory operand -/

/-- What an access to the byte operand `loc` answers: what the address raises, `OutOfRange` at an address that does not
exist, or `t` of the address. -/
def ByteCases {α : Type} (s : State) (loc : Loc) (x : Except AccessFault α) (t : Word → α) : Prop :=
  (∀ e, s.effAddr loc = .error e → x = .error e) ∧
  (∀ a, s.effAddr loc = .ok a → ¬ s.inMem a → x = .error ⟨.mem, a.toNat⟩) ∧
  (∀ a, s.effAddr loc = .ok a → s.inMem a → x = .ok (t a))

/-- What an access to the word at `a` answers: the first fault of its two bytes, or `t` of the high byte's address
(20_memory.md R55). -/
def WordCases {α : Type} (s : State) (a : Word) (x : Except AccessFault α) (t : Word → α) : Prop :=
  (¬ s.inMem a → x = .error ⟨.mem, a.toNat⟩) ∧
  (∀ e, s.inMem a → s.addrNext a = .error e → x = .error e) ∧
  (∀ b, s.inMem a → s.addrNext a = .ok b → ¬ s.inMem b → x = .error ⟨.mem, b.toNat⟩) ∧
  (∀ b, s.inMem a → s.addrNext a = .ok b → s.inMem b → x = .ok (t b))

section Accesses

variable {α β : Type} {s : State} {loc : Loc} {a : Word} {x : Except AccessFault α} {t : Word → α} {code : List Byte}
  {i : Instr}

theorem byteCases_effAddr {f : Word → Except AccessFault α}
    (hmissing : ∀ a, ¬ s.inMem a → f a = .error ⟨.mem, a.toNat⟩)
    (hpresent : ∀ a, s.inMem a → f a = .ok (t a)) : ByteCases s loc (s.effAddr loc >>= f) t := by
  refine ⟨fun e he => ?_, fun a ha hm => ?_, fun a ha hm => ?_⟩
  · rw [he]; rfl
  · rw [ha]; exact hmissing a hm
  · rw [ha]; exact hpresent a hm

theorem loadLoc_cases (s : State) (loc : Loc) : ByteCases s loc (s.loadLoc loc) fun a => s.mem.read a.toNat :=
  byteCases_effAddr (fun _ => memRead_missing) (fun _ => memRead_present)

theorem memWrite_effAddr_cases (s : State) (loc : Loc) (v : Byte) :
    ByteCases s loc (s.effAddr loc >>= (s.memWrite · v)) (s.storeByte · v) :=
  byteCases_effAddr (fun _ => memWrite_missing) (fun _ => memWrite_present)

/-- A computation that goes on without a fault after the access raises what the access raises. -/
theorem ByteCases.map (h : ByteCases s loc x t) (f : α → β) :
    ByteCases s loc (x >>= fun v => .ok (f v)) fun a => f (t a) := by
  obtain ⟨haddr, hmissing, hpresent⟩ := h
  refine ⟨fun e he => ?_, fun a ha hm => ?_, fun a ha hm => ?_⟩
  · rw [haddr e he]; rfl
  · rw [hmissing a ha hm]; rfl
  · rw [hpresent a ha hm]; rfl

theorem WordCases.map (h : WordCases s a x t) (f : α → β) :
    WordCases s a (x >>= fun v => .ok (f v)) fun b => f (t b) := by
  obtain ⟨hlow, hnext, hhigh, hboth⟩ := h
  refine ⟨fun ha => ?_, fun e ha he => ?_, fun b ha hb hm => ?_, fun b ha hb hm => ?_⟩
  · rw [hlow ha]; rfl
  · rw [hnext e ha he]; rfl
  · rw [hhigh b ha hb hm]; rfl
  · rw [hboth b ha hb hm]; rfl

/-- A fault in the execute phase is the instruction's, `pc0` the address of its first byte (60_exceptions.md R371). -/
theorem raises_of_finish {body : Except AccessFault State} {e : AccessFault}
    (hexec : exec i s = s.finish code.length body) (h : body = .error e) : Raises code i s e :=
  ⟨_, by rw [hexec, h]; rfl, rfl⟩

theorem next_of_finish {body : Except AccessFault State} {t : State} (hexec : exec i s = s.finish code.length body)
    (h : body = .ok t) : exec i s = .next t := by
  rw [hexec, h]; rfl

/-- An instruction whose execute phase is one access to a byte operand. -/
theorem ByteCases.onByte {body : Except AccessFault State} {t : Word → State} {P : Word → Byte → Prop}
    (h : ByteCases s loc body t) (hexec : exec i s = s.finish code.length body)
    (hP : ∀ a, exec i s = .next (t a) → P a (s.mem.read a.toNat)) : OnByte code i s loc P := by
  obtain ⟨haddr, hmissing, hpresent⟩ := h
  exact ⟨fun e he => raises_of_finish hexec (haddr e he), fun a ha hm => raises_of_finish hexec (hmissing a ha hm),
    fun a ha hm => hP a (next_of_finish hexec (hpresent a ha hm))⟩

/-- An instruction whose execute phase is one access to a word operand. -/
theorem WordCases.onWord {body : Except AccessFault State} {t : Word → State} {P : Word → Prop}
    (h : WordCases s a body t) (hexec : exec i s = s.finish code.length body)
    (hP : ∀ b, exec i s = .next (t b) → P b) : OnWord code i s a P := by
  obtain ⟨hlow, hnext, hhigh, hboth⟩ := h
  exact ⟨fun ha => raises_of_finish hexec (hlow ha), fun e ha he => raises_of_finish hexec (hnext e ha he),
    fun b ha hb hm => raises_of_finish hexec (hhigh b ha hb hm),
    fun b ha hb hm => hP b (next_of_finish hexec (hboth b ha hb hm))⟩

theorem nextStoring_storeByte {v : Byte} (h : exec i s = .next (s.storeByte a v)) : NextStoring i s s a v :=
  ⟨_, h, storeByte_stored s a v⟩

theorem nextStoringWord_storeByte {b : Word} {low high : Byte}
    (h : exec i s = .next ((s.storeByte a low).storeByte b high)) : NextStoringWord i s s a b low high :=
  ⟨_, h, rfl, storeByte_storeByte_storedWord s a b low high⟩

end Accesses

/-! ## Loads and stores of a byte -/

/-- Settles O9: every row is `loadReg` or `loadImm` on its registers. -/
theorem loadRegister : Obligations.LoadRegister := by
  refine fun s n => ⟨fun code i dst src hmem => ?_, fun code i dst hmem => ?_⟩
  · have hrow := loadReg_rows _ hmem
    exact ⟨hrow.isCode, hrow.exec_eq s⟩
  · have hrow := loadImm_rows n _ hmem
    exact ⟨hrow.isCode, hrow.exec_eq s⟩

/-- Settles O10: every row reads its operand, then writes its register. -/
theorem loadFromMemory : Obligations.LoadFromMemory := by
  intro s d l h code i dst loc hmem
  have hrow := loadMem_rows d l h _ hmem
  exact ⟨hrow.isCode, ((loadLoc_cases s loc).map (s.setReg8 dst)).onByte (hrow.exec_eq s) fun _ => id⟩

/-- Settles O11: every row writes one byte at its operand's address. -/
theorem storeToMemory : Obligations.StoreToMemory := by
  refine fun s d n l h => ⟨fun code i loc src hmem => ?_, fun code i loc hmem => ?_⟩
  · have hrow := storeReg_rows d l h _ hmem
    exact ⟨hrow.isCode, (memWrite_effAddr_cases s loc (s.reg8 src)).onByte (hrow.exec_eq s) fun _ =>
      nextStoring_storeByte⟩
  · have hrow := storeImm_rows d n _ hmem
    exact ⟨hrow.isCode, (memWrite_effAddr_cases s loc n).onByte (hrow.exec_eq s) fun _ => nextStoring_storeByte⟩

/-- `ld a,i` and `ld a,r` name every flag but `C`, which they take from the old `F`. -/
theorem loadSpecial_eq (v : Byte) (s : State) : loadSpecial v s = .next { s with
    a := v,
    f := Flags.toByte { s := v.getLsbD 7, z := v == 0, f5 := v.getLsbD 5, h := false, f3 := v.getLsbD 3,
                        pv := s.iff2, n := false, c := s.flags.c } } := rfl

/-- Settles O12: the two loads of `A` are `loadSpecial` on `I` and on `R`. -/
theorem loadSpecialRegisters : Obligations.LoadSpecialRegisters := by
  refine fun s => ⟨?_, ⟨fun _ => rfl, rfl⟩, ⟨fun _ => rfl, rfl⟩⟩
  simp only [List.mem_cons, Prod.mk.injEq, List.not_mem_nil, or_false]
  rintro code i v (⟨rfl, rfl, rfl⟩ | ⟨rfl, rfl, rfl⟩) <;> exact ⟨fun _ => rfl, loadSpecial_eq _ s⟩

/-! ## Loads and stores of a word -/

/-- Settles O13: every row is `loadPair` on its word, which for `SP` is a pair. -/
theorem loadPairs : Obligations.LoadPairs := by
  refine fun s l h => ⟨fun code i dst hmem => ?_, fun code i src hmem => ?_⟩
  · have hrow := loadPairImm_rows l h _ hmem
    exact ⟨hrow.isCode, hrow.exec_eq s⟩
  · have hrow := loadSp_rows _ hmem
    exact ⟨hrow.isCode, hrow.exec_eq s⟩

/-- Settles O14: every row reads the word at `nn`, then writes its pair. -/
theorem loadPairsFromMemory : Obligations.LoadPairsFromMemory := by
  intro s l h code i dst hmem
  have hrow := loadPairMem_rows l h _ hmem
  have hread : WordCases s (joinBytes h l) _ _ := memRead16_cases s (joinBytes h l)
  exact ⟨hrow.isCode, (hread.map (s.setPair dst)).onWord (hrow.exec_eq s) fun _ => id⟩

/-- Settles O15: every row writes its pair at `nn`. -/
theorem storePairsToMemory : Obligations.StorePairsToMemory := by
  intro s l h code i src hmem
  have hrow := storePair_rows l h _ hmem
  have hwrite : WordCases s (joinBytes h l) _ _ := memWrite16_cases s (joinBytes h l) (s.pair src)
  exact ⟨hrow.isCode, hwrite.onWord (hrow.exec_eq s) fun _ => nextStoringWord_storeByte⟩

end Sys2Proof.Laws
end

section
/-! PROOFS. The family 41_exchange.md: the register exchanges, and the exchanges with the word at `SP`. -/

namespace Sys2Proof.Laws

open Sys2Proof.Machine Sys2Proof.Claims

/-! ## The word at `SP` -/

theorem exTop_rows : ∀ x ∈ Rows.exTop, IsRow x.1 x.2.1 (.exTop x.1.length x.2.2) :=
  List.forall_iff_forall_mem.1 (by and_intros <;> exact ⟨fun _ => rfl, rfl⟩)

/-- A second access to the same word faults where the first one does, so both together fault as the first. -/
theorem WordCases.bind {α β : Type} {s : State} {a : Word} {x : Except AccessFault α} {t : Word → α}
    {f : α → Except AccessFault β} {u : α → Word → β} (hx : WordCases s a x t) (hf : ∀ v, WordCases s a (f v) (u v)) :
    WordCases s a (x >>= f) fun b => u (t b) b := by
  obtain ⟨hlow, hnext, hhigh, hboth⟩ := hx
  refine ⟨fun ha => ?_, fun e ha he => ?_, fun b ha hb hm => ?_, fun b ha hb hm => ?_⟩
  · rw [hlow ha]; rfl
  · rw [hnext e ha he]; rfl
  · rw [hhigh b ha hb hm]; rfl
  · obtain ⟨-, -, -, hboth'⟩ := hf (t b)
    rw [hboth b ha hb hm]
    exact hboth' b ha hb hm

/-- What an exchange with the word at `SP` answers. -/
theorem exchangeTop_cases (s : State) (p : Pair) :
    WordCases s s.sp (s.memRead16 s.sp >>= fun v => s.memWrite16 s.sp (s.pair p) >>= fun s1 => .ok (s1.setPair p v))
      fun b => ((s.storeByte s.sp (lowByte (s.pair p))).storeByte b (highByte (s.pair p))).setPair p
        (joinBytes (s.mem.read b.toNat) (s.mem.read s.sp.toNat)) :=
  have hread : WordCases s s.sp _ _ := memRead16_cases s s.sp
  have hwrite : WordCases s s.sp _ _ := memWrite16_cases s s.sp (s.pair p)
  hread.bind fun v => hwrite.map (·.setPair p v)

/-- A register write touches no memory, so after the two stores it is a write to the old state beside them. -/
theorem nextStoringWord_storeByte_setPair {i : Instr} {s : State} {a b : Word} {low high : Byte} {p : Pair} {v : Word}
    (h : exec i s = .next (((s.storeByte a low).storeByte b high).setPair p v)) :
    NextStoringWord i s (s.setPair p v) a b low high := by
  refine ⟨_, h, by cases p <;> rfl, fun k => ?_⟩
  rw [State.setPair_mem]
  exact storeByte_storeByte_storedWord s a b low high k

/-- Settles O17: every row reads the word at `SP`, writes its pair there, and then writes the pair. -/
theorem exchangeStackTop : Obligations.ExchangeStackTop := by
  intro s code i p hmem
  have hrow := exTop_rows _ hmem
  exact ⟨hrow.isCode, (exchangeTop_cases s p).onWord (hrow.exec_eq s) fun _ => nextStoringWord_storeByte_setPair⟩

/-! ## Registers -/

/-- Exchanging the pairs is exchanging their halves. -/
theorem exec_ex_de_hl_eq (s : State) : exec_ex_de_hl s = .next { s with d := s.h, e := s.l, h := s.d, l := s.e } := by
  simp only [exec_ex_de_hl, State.setPair, State.pair, highByte_joinBytes, lowByte_joinBytes]

/-- Settles O16: `ex de,hl` is stated over pairs; the other two are one record update each. -/
theorem exchangeRegisters : Obligations.ExchangeRegisters :=
  fun s => ⟨⟨fun _ => rfl, exec_ex_de_hl_eq s⟩, ⟨fun _ => rfl, rfl⟩, ⟨fun _ => rfl, rfl⟩⟩

end Sys2Proof.Laws
end

section
/-! PROOFS. The family 42_arith.md: the ALU primitives as integer arithmetic, and the 8-bit and 16-bit instructions built on
them. -/

namespace Sys2Proof.Laws

open Sys2Proof.Machine Sys2Proof.Claims

/-! ## Signed overflow

The primitives test `V` on sign bits. Both tests are proved once, for every width `w + 1`. -/

section Overflow

variable {w : Nat}

theorem getLsbD_top (x : BitVec (w + 1)) : x.getLsbD w = decide (2 ^ w ≤ x.toNat) :=
  x.msb_eq_getLsbD_last.symm.trans x.msb_eq_decide

/-- The signed value is the unsigned value, less `2 ^ (w + 1)` when the sign bit is set. -/
theorem toInt_cases (x : BitVec (w + 1)) :
    (x.toNat < 2 ^ w ∧ x.toInt = x.toNat) ∨
    (2 ^ w ≤ x.toNat ∧ x.toNat < 2 * 2 ^ w ∧ x.toInt = x.toNat - 2 * (2 ^ w : Nat)) := by
  have hlt := x.isLt
  rw [BitVec.toInt_eq_toNat_cond]
  rw [Nat.pow_succ'] at hlt ⊢
  split <;> omega

/-- A sum of two words and a carry wraps at most once. -/
theorem toNat_ofNat_cases {t : Nat} (ht : t < 4 * 2 ^ w) :
    (t < 2 * 2 ^ w ∧ (BitVec.ofNat (w + 1) t).toNat = t) ∨
    (2 * 2 ^ w ≤ t ∧ (BitVec.ofNat (w + 1) t).toNat = t - 2 * 2 ^ w) := by
  rw [BitVec.toNat_ofNat, Nat.pow_succ']
  rcases lt_or_ge t (2 * 2 ^ w) with h | h
  · exact .inl ⟨h, Nat.mod_eq_of_lt h⟩
  · exact .inr ⟨h, by rw [Nat.mod_eq_sub_mod h, Nat.mod_eq_of_lt (by omega)]⟩

/-- A difference of two words and a borrow wraps at most once. -/
theorem toNat_ofInt_cases {t : Int} (hlo : -(2 * (2 ^ w : Nat)) ≤ t) (hhi : t < 2 * (2 ^ w : Nat)) :
    (0 ≤ t ∧ ((BitVec.ofInt (w + 1) t).toNat : Int) = t) ∨
    (t < 0 ∧ ((BitVec.ofInt (w + 1) t).toNat : Int) = t + 2 * (2 ^ w : Nat)) := by
  have hpow : ((2 ^ (w + 1) : Nat) : Int) = 2 * (2 ^ w : Nat) := by rw [Nat.pow_succ']; rfl
  rw [BitVec.toNat_ofInt, hpow]
  rcases lt_or_ge t 0 with h | h
  · refine .inr ⟨h, ?_⟩
    rw [← Int.add_emod_right, Int.emod_eq_of_lt (by omega) (by omega), Int.toNat_of_nonneg (by omega)]
  · exact .inl ⟨h, by rw [Int.emod_eq_of_lt h hhi, Int.toNat_of_nonneg h]⟩

theorem add_overflow_iff (a b : BitVec (w + 1)) (c : Bool) :
    (a.getLsbD w == b.getLsbD w &&
      (BitVec.ofNat (w + 1) (a.toNat + b.toNat + c.toNat)).getLsbD w != a.getLsbD w) = true ↔
    a.toInt + b.toInt + c.toNat < -(2 ^ w : Nat) ∨ (2 ^ w : Nat) - 1 < a.toInt + b.toInt + c.toNat := by
  have hc := c.toNat_le
  have ha := toInt_cases a
  have hb := toInt_cases b
  have hr := toNat_ofNat_cases (w := w) (t := a.toNat + b.toNat + c.toNat) (by omega)
  simp only [getLsbD_top, Bool.and_eq_true, beq_iff_eq, bne_iff_ne, ne_eq, decide_eq_decide]
  omega

theorem sub_overflow_iff (a b : BitVec (w + 1)) (c : Bool) :
    (a.getLsbD w != b.getLsbD w &&
      (BitVec.ofInt (w + 1) ((a.toNat : Int) - b.toNat - c.toNat)).getLsbD w != a.getLsbD w) = true ↔
    a.toInt - b.toInt - c.toNat < -(2 ^ w : Nat) ∨ (2 ^ w : Nat) - 1 < a.toInt - b.toInt - c.toNat := by
  have hc := c.toNat_le
  have ha := toInt_cases a
  have hb := toInt_cases b
  have hr := toNat_ofInt_cases (w := w) (t := (a.toNat : Int) - b.toNat - c.toNat) (by omega) (by omega)
  simp only [getLsbD_top, Bool.and_eq_true, bne_iff_ne, ne_eq, decide_eq_decide]
  omega

end Overflow

/-! ## The ALU primitives -/

theorem coe_toNat_ofInt (w : Nat) (t : Int) : ((BitVec.ofInt w t).toNat : Int) = t % (2 ^ w : Nat) := by
  rw [BitVec.toNat_ofInt, Int.toNat_of_nonneg (Int.emod_nonneg _ (by positivity))]

/-- A borrow is a minuend too small. -/
theorem borrow_iff (x y c : Nat) : decide ((x : Int) - y - c < 0) = true ↔ x < y + c := by
  rw [decide_eq_true_iff]; omega

/-- Settles O7: every flag but `V` is the comparison its rule writes, and `V` is the overflow test at widths 8 and 16. -/
theorem aluPrimitives : Obligations.AluPrimitives :=
  ⟨fun a b c => ⟨BitVec.toNat_ofNat .., rfl, beq_iff_eq, decide_eq_true_iff, add_overflow_iff (w := 7) a b c, rfl,
      decide_eq_true_iff⟩,
    fun a b c => ⟨coe_toNat_ofInt 8 _, rfl, beq_iff_eq, borrow_iff .., sub_overflow_iff (w := 7) a b c, rfl,
      borrow_iff ..⟩,
    fun a b c => ⟨BitVec.toNat_ofNat .., rfl, beq_iff_eq, decide_eq_true_iff, add_overflow_iff (w := 15) a b c, rfl,
      decide_eq_true_iff⟩,
    fun a b c => ⟨coe_toNat_ofInt 16 _, rfl, beq_iff_eq, borrow_iff .., sub_overflow_iff (w := 15) a b c, rfl,
      borrow_iff ..⟩⟩

/-! ## Adding to and subtracting from the accumulator -/

theorem add_rows (d n : Byte) : ∀ x ∈ Rows.add d n, IsRow x.1 x.2.1 (.add x.1.length x.2.2) :=
  List.forall_iff_forall_mem.1 (by and_intros <;> exact ⟨fun _ => rfl, rfl⟩)

theorem adc_rows (d n : Byte) : ∀ x ∈ Rows.adc d n, IsRow x.1 x.2.1 (.adc x.1.length x.2.2) :=
  List.forall_iff_forall_mem.1 (by and_intros <;> exact ⟨fun _ => rfl, rfl⟩)

theorem sub_rows (d n : Byte) : ∀ x ∈ Rows.sub d n, IsRow x.1 x.2.1 (.sub x.1.length x.2.2) :=
  List.forall_iff_forall_mem.1 (by and_intros <;> exact ⟨fun _ => rfl, rfl⟩)

theorem sbc_rows (d n : Byte) : ∀ x ∈ Rows.sbc d n, IsRow x.1 x.2.1 (.sbc x.1.length x.2.2) :=
  List.forall_iff_forall_mem.1 (by and_intros <;> exact ⟨fun _ => rfl, rfl⟩)

/-- An instruction whose execute phase reads the operand `src` and goes on without a fault: `t` of the operand's byte. -/
theorem onSource_of_finish {code : List Byte} {i : Instr} {s : State} {src : Src8} {t : Byte → State} {P : Byte → Prop}
    (hexec : exec i s = s.finish code.length (s.src8 src >>= fun v => .ok (t v)))
    (hP : ∀ v, exec i s = .next (t v) → P v) : OnSource code i s src P := by
  cases src with
  | reg r => exact hP _ (next_of_finish hexec rfl)
  | imm n => exact hP _ (next_of_finish hexec rfl)
  | mem loc => exact ((loadLoc_cases s loc).map t).onByte hexec fun _ => hP _

/-- Settles O18: every row is `addToA` on its operand, with the carry its mnemonic names. -/
theorem addToAccumulator : Obligations.AddToAccumulator := by
  rintro s d n code i src carry (⟨hmem, rfl⟩ | ⟨hmem, rfl⟩)
  · have hrow := add_rows d n _ hmem
    exact ⟨hrow.isCode, onSource_of_finish (hrow.exec_eq s) fun _ => id⟩
  · have hrow := adc_rows d n _ hmem
    exact ⟨hrow.isCode, onSource_of_finish (hrow.exec_eq s) fun _ => id⟩

/-- Settles O19: every row is `subFromA` on its operand, with the borrow its mnemonic names. -/
theorem subtractFromAccumulator : Obligations.SubtractFromAccumulator := by
  rintro s d n code i src carry (⟨hmem, rfl⟩ | ⟨hmem, rfl⟩)
  · have hrow := sub_rows d n _ hmem
    exact ⟨hrow.isCode, onSource_of_finish (hrow.exec_eq s) fun _ => id⟩
  · have hrow := sbc_rows d n _ hmem
    exact ⟨hrow.isCode, onSource_of_finish (hrow.exec_eq s) fun _ => id⟩

/-! ## Stepping a byte -/

/-- `F` after the byte `v` is incremented (42_arith.md R169): `H` and `PV` read off the old value. -/
def incFlags (x : Flags) (v : Byte) : Flags :=
  { s := (v + 1).getLsbD 7, z := v + 1 == 0, f5 := (v + 1).getLsbD 5, h := v.toNat % 16 == 15, f3 := (v + 1).getLsbD 3,
    pv := v == 0x7F, n := false, c := x.c }

/-- `F` after the byte `v` is decremented (42_arith.md R171). -/
def decFlags (x : Flags) (v : Byte) : Flags :=
  { s := (v - 1).getLsbD 7, z := v - 1 == 0, f5 := (v - 1).getLsbD 5, h := v.toNat % 16 == 0, f3 := (v - 1).getLsbD 3,
    pv := v == 0x80, n := true, c := x.c }

/-! ### A step by one

The primitives at a second operand 1 and no carry. -/

theorem add8_one_res (v : Byte) : (add8 v 1 false).res = v + 1 := rfl

theorem add8_one_h (v : Byte) : (add8 v 1 false).h = (v.toNat % 16 == 15) := by
  obtain ⟨-, -, -, hh, -⟩ := aluPrimitives.1 v 1 false
  rw [Bool.eq_iff_iff, hh, beq_iff_eq]
  show 15 < v.toNat % 16 + 1 + 0 ↔ v.toNat % 16 = 15
  omega

theorem add8_one_v (v : Byte) : (add8 v 1 false).v = (v == 0x7F) := by
  obtain ⟨-, -, -, -, hv, -⟩ := aluPrimitives.1 v 1 false
  have hlo : -128 ≤ v.toInt := v.le_toInt
  have hhi : v.toInt < 128 := v.toInt_lt
  rw [Bool.eq_iff_iff, hv, beq_iff_eq, ← BitVec.toInt_inj]
  show v.toInt + 1 + 0 < -128 ∨ 127 < v.toInt + 1 + 0 ↔ v.toInt = 127
  omega

theorem sub8_one_res (v : Byte) : (sub8 v 1 false).res = v - 1 := by
  show BitVec.ofInt 8 (v.toNat - 1 - 0) = v - 1
  rw [sub_zero, Int.sub_eq_add_neg, BitVec.ofInt_add, BitVec.ofInt_natCast, BitVec.ofNat_toNat, BitVec.setWidth_eq,
    BitVec.sub_eq_add_neg]
  rfl

theorem sub8_one_h (v : Byte) : (sub8 v 1 false).h = (v.toNat % 16 == 0) := by
  obtain ⟨-, -, -, hh, -⟩ := aluPrimitives.2.1 v 1 false
  rw [Bool.eq_iff_iff, hh, beq_iff_eq]
  show v.toNat % 16 < 1 + 0 ↔ v.toNat % 16 = 0
  omega

theorem sub8_one_v (v : Byte) : (sub8 v 1 false).v = (v == 0x80) := by
  obtain ⟨-, -, -, -, hv, -⟩ := aluPrimitives.2.1 v 1 false
  have hlo : -128 ≤ v.toInt := v.le_toInt
  have hhi : v.toInt < 128 := v.toInt_lt
  rw [Bool.eq_iff_iff, hv, beq_iff_eq, ← BitVec.toInt_inj]
  show v.toInt - 1 - 0 < -128 ∨ 127 < v.toInt - 1 - 0 ↔ v.toInt = -128
  omega

theorem commit_add8_one (x : Flags) (v : Byte) : (x.commitSZHVN (add8 v 1 false)).bits53 (v + 1) = incFlags x v := by
  unfold incFlags
  rw [← add8_one_h, ← add8_one_v]
  rfl

theorem commit_sub8_one (x : Flags) (v : Byte) : (x.commitSZHVN (sub8 v 1 false)).bits53 (v - 1) = decFlags x v := by
  unfold decFlags
  rw [← sub8_one_h, ← sub8_one_v, ← sub8_one_res]
  rfl

/-! ### In a register -/

theorem incReg_rows : ∀ x ∈ Rows.incReg, IsRow x.1 x.2.1 (.incReg x.2.2) :=
  List.forall_iff_forall_mem.1 (by and_intros <;> exact ⟨fun _ => rfl, rfl⟩)

theorem decReg_rows : ∀ x ∈ Rows.decReg, IsRow x.1 x.2.1 (.decReg x.2.2) :=
  List.forall_iff_forall_mem.1 (by and_intros <;> exact ⟨fun _ => rfl, rfl⟩)

theorem incReg_eq (r : Reg8) (s : State) :
    incReg r s = .next ((s.setReg8 r (s.reg8 r + 1)).setFlags (incFlags s.flags (s.reg8 r))) := by
  simp only [incReg, add8_one_res, commit_add8_one]

theorem decReg_eq (r : Reg8) (s : State) :
    decReg r s = .next ((s.setReg8 r (s.reg8 r - 1)).setFlags (decFlags s.flags (s.reg8 r))) := by
  simp only [decReg, sub8_one_res, commit_sub8_one]

/-- Settles O22: every row is `incReg` or `decReg` on its register. -/
theorem stepRegister : Obligations.StepRegister := by
  refine fun s => ⟨fun code i r hmem => ?_, fun code i r hmem => ?_⟩
  · have hrow := incReg_rows _ hmem
    exact ⟨hrow.isCode, (hrow.exec_eq s).trans (incReg_eq r s)⟩
  · have hrow := decReg_rows _ hmem
    exact ⟨hrow.isCode, (hrow.exec_eq s).trans (decReg_eq r s)⟩

/-! ### In memory -/

theorem incMem_rows (d : Byte) : ∀ x ∈ Rows.incMem d, IsRow x.1 x.2.1 (.incMem x.1.length x.2.2) :=
  List.forall_iff_forall_mem.1 (by and_intros <;> exact ⟨fun _ => rfl, rfl⟩)

theorem decMem_rows (d : Byte) : ∀ x ∈ Rows.decMem d, IsRow x.1 x.2.1 (.decMem x.1.length x.2.2) :=
  List.forall_iff_forall_mem.1 (by and_intros <;> exact ⟨fun _ => rfl, rfl⟩)

/-- Reading a memory operand and writing it back with new flags: once the byte exists for the read, it does for the
write. -/
theorem modify_cases (s : State) (loc : Loc) (f : Byte → Byte) (x : Byte → Flags) :
    ByteCases s loc
      (s.effAddr loc >>= fun a => s.memRead a >>= fun v => s.memWrite a (f v) >>= fun t => .ok (t.setFlags (x v)))
      fun a => (s.storeByte a (f (s.mem.read a.toNat))).setFlags (x (s.mem.read a.toNat)) := by
  refine byteCases_effAddr (fun a hm => ?_) (fun a hm => ?_)
  · rw [memRead_missing hm]; rfl
  · rw [memRead_present hm]
    show s.memWrite a (f _) >>= _ = _
    rw [memWrite_present hm]; rfl

theorem nextStoring_storeByte_setFlags {i : Instr} {s : State} {a : Word} {v : Byte} {x : Flags}
    (h : exec i s = .next ((s.storeByte a v).setFlags x)) : NextStoring i s (s.setFlags x) a v :=
  ⟨_, h, rfl, (storeByte_stored s a v).2⟩

theorem incMem_eq (len : Nat) (loc : Loc) (s : State) :
    incMem len loc s = s.finish len (s.effAddr loc >>= fun a => s.memRead a >>= fun v =>
      s.memWrite a (v + 1) >>= fun t => .ok (t.setFlags (incFlags s.flags v))) := by
  simp only [incMem, add8_one_res, commit_add8_one]
  rfl

theorem decMem_eq (len : Nat) (loc : Loc) (s : State) :
    decMem len loc s = s.finish len (s.effAddr loc >>= fun a => s.memRead a >>= fun v =>
      s.memWrite a (v - 1) >>= fun t => .ok (t.setFlags (decFlags s.flags v))) := by
  simp only [decMem, sub8_one_res, commit_sub8_one]
  rfl

/-- Settles O23: every row is `incMem` or `decMem` on its operand. -/
theorem stepMemory : Obligations.StepMemory := by
  refine fun s d => ⟨fun code i loc hmem => ?_, fun code i loc hmem => ?_⟩
  · have hrow := incMem_rows d _ hmem
    exact ⟨hrow.isCode, (modify_cases s loc (· + 1) (incFlags s.flags)).onByte
      ((hrow.exec_eq s).trans (incMem_eq _ loc s)) fun _ => nextStoring_storeByte_setFlags⟩
  · have hrow := decMem_rows d _ hmem
    exact ⟨hrow.isCode, (modify_cases s loc (· - 1) (decFlags s.flags)).onByte
      ((hrow.exec_eq s).trans (decMem_eq _ loc s)) fun _ => nextStoring_storeByte_setFlags⟩

/-! ## Pairs -/

theorem addPair_rows : ∀ x ∈ Rows.addPair, IsRow x.1 x.2.1 (.addPair x.2.2.1 x.2.2.2) :=
  List.forall_iff_forall_mem.1 (by and_intros <;> exact ⟨fun _ => rfl, rfl⟩)

theorem adcHl_rows : ∀ x ∈ Rows.adcHl, IsRow x.1 x.2.1 (.adcHl x.2.2) :=
  List.forall_iff_forall_mem.1 (by and_intros <;> exact ⟨fun _ => rfl, rfl⟩)

theorem sbcHl_rows : ∀ x ∈ Rows.sbcHl, IsRow x.1 x.2.1 (.sbcHl x.2.2) :=
  List.forall_iff_forall_mem.1 (by and_intros <;> exact ⟨fun _ => rfl, rfl⟩)

theorem incPair_rows : ∀ x ∈ Rows.incPair, IsRow x.1 x.2.1 (.incPair x.2.2) :=
  List.forall_iff_forall_mem.1 (by and_intros <;> exact ⟨fun _ => rfl, rfl⟩)

theorem decPair_rows : ∀ x ∈ Rows.decPair, IsRow x.1 x.2.1 (.decPair x.2.2) :=
  List.forall_iff_forall_mem.1 (by and_intros <;> exact ⟨fun _ => rfl, rfl⟩)

/-- Bits 5 and 3 of a word's high byte are its bits 13 and 11. -/
theorem bits53_highByte (x : Flags) (w : Word) :
    x.bits53 (highByte w) = { x with f5 := w.getLsbD 13, f3 := w.getLsbD 11 } := by
  simp only [Flags.bits53, highByte, BitVec.getLsbD_extractLsb']
  rfl

/-- Settles O24: every row is `addPair`, `adcHl` or `sbcHl`; their rules name every flag they commit. -/
theorem pairArithmetic : Obligations.PairArithmetic := by
  refine fun s => ⟨fun code i dst src hmem => ?_, fun code i src hmem => ?_, fun code i src hmem => ?_⟩
  · have hrow := addPair_rows _ hmem
    refine ⟨hrow.isCode, (hrow.exec_eq s).trans ?_⟩
    simp only [runForm, addPair, bits53_highByte]
    rfl
  · have hrow := adcHl_rows _ hmem
    refine ⟨hrow.isCode, (hrow.exec_eq s).trans ?_⟩
    simp only [runForm, adcHl, bits53_highByte]
    rfl
  · have hrow := sbcHl_rows _ hmem
    refine ⟨hrow.isCode, (hrow.exec_eq s).trans ?_⟩
    simp only [runForm, sbcHl, bits53_highByte]
    rfl

/-- Settles O25: every row is `incPair` or `decPair`, which write the pair alone. -/
theorem stepPairs : Obligations.StepPairs := by
  refine fun s => ⟨fun code i p hmem => ?_, fun code i p hmem => ?_⟩
  · have hrow := incPair_rows _ hmem
    exact ⟨hrow.isCode, hrow.exec_eq s⟩
  · have hrow := decPair_rows _ hmem
    exact ⟨hrow.isCode, hrow.exec_eq s⟩

end Sys2Proof.Laws
end

section
/-! PROOFS. The family 43_stack.md: what an access to two stack cells answers, and the pushes and pops. -/

namespace Sys2Proof.Laws

open Sys2Proof.Machine Sys2Proof.Claims

/-! ## Rows -/

theorem push_rows : ∀ x ∈ Rows.push, IsRow x.1 x.2.1 (.push x.1.length x.2.2) :=
  List.forall_iff_forall_mem.1 (by and_intros <;> exact ⟨fun _ => rfl, rfl⟩)

theorem pop_rows : ∀ x ∈ Rows.pop, IsRow x.1 x.2.1 (.pop x.1.length x.2.2) :=
  List.forall_iff_forall_mem.1 (by and_intros <;> exact ⟨fun _ => rfl, rfl⟩)

/-! ## The accesses of the stack -/

/-- What an access to the stack cells `a`, then `b`, answers: `OutOfRange` at the first that does not exist, or `t`
(43_stack.md R200). -/
def StackCases {α : Type} (s : State) (a b : Word) (x : Except AccessFault α) (t : α) : Prop :=
  (¬ s.inMem a → x = .error ⟨.mem, a.toNat⟩) ∧
  (s.inMem a → ¬ s.inMem b → x = .error ⟨.mem, b.toNat⟩) ∧
  (s.inMem a → s.inMem b → x = .ok t)

section Accesses

variable {α β : Type} {s : State} {a b : Word} {x : Except AccessFault α} {t : α} {code : List Byte} {i : Instr}

theorem StackCases.map (h : StackCases s a b x t) (f : α → β) :
    StackCases s a b (x >>= fun v => .ok (f v)) (f t) := by
  obtain ⟨hfirst, hsecond, hboth⟩ := h
  refine ⟨fun ha => ?_, fun ha hb => ?_, fun ha hb => ?_⟩
  · rw [hfirst ha]; rfl
  · rw [hsecond ha hb]; rfl
  · rw [hboth ha hb]; rfl

/-- An instruction whose execute phase is one access to two stack cells. -/
theorem StackCases.onStack {body : Except AccessFault State} {t : State} {P : Prop}
    (h : StackCases s a b body t) (hexec : exec i s = s.finish code.length body)
    (hP : exec i s = .next t → P) : OnStack code i s a b P := by
  obtain ⟨hfirst, hsecond, hboth⟩ := h
  exact ⟨fun ha => raises_of_finish hexec (hfirst ha), fun ha hb => raises_of_finish hexec (hsecond ha hb),
    fun ha hb => hP (next_of_finish hexec (hboth ha hb))⟩

end Accesses

/-! ## Pushes and pops -/

/-- At two different addresses the bytes of a word can be stored high byte first. -/
theorem storeByte_storeByte_storedWord_of_ne (s : State) {a b : Word} (h : a ≠ b) (low high : Byte) :
    StoredWord s ((s.storeByte b high).storeByte a low) a b low high := fun k => by
  have hne : a.toNat ≠ b.toNat := mt BitVec.eq_of_toNat_eq h
  rw [(storeByte_stored _ a low).2, (storeByte_stored s b high).2]
  by_cases hk : k = b.toNat
  · rw [hk, if_neg hne.symm, if_pos rfl, if_pos rfl]
  · rw [if_neg hk, if_neg hk]

/-- The two cells below `SP` are different ones, so a push stores a word there. -/
theorem pushed_storedWord (s : State) (low high : Byte) :
    StoredWord s ((s.storeByte (s.sp - 1) high).storeByte (s.sp - 2) low) (s.sp - 2) (s.sp - 1) low high :=
  storeByte_storeByte_storedWord_of_ne s (by bv_omega) low high

/-- Settles O28: every row pushes its pair. -/
theorem pushPairs : Obligations.PushPairs := by
  intro s code i p hmem
  have hrow := push_rows _ hmem
  have hpush : StackCases s (s.sp - 1) (s.sp - 2) _ _ := push16_cases s (s.pair p)
  exact ⟨hrow.isCode, hpush.onStack (hrow.exec_eq s) fun hnext => ⟨_, hnext, rfl, pushed_storedWord s _ _⟩⟩

/-- Settles O29: every row pops a word, then writes its pair; `setPair .af` writes `A` and the whole byte `F`. -/
theorem popPairs : Obligations.PopPairs := by
  intro s code i p hmem
  have hrow := pop_rows _ hmem
  have hpop : StackCases s s.sp (s.sp + 1) _ _ := pop16_cases s
  exact ⟨hrow.isCode, (hpop.map fun o => o.2.setPair p o.1).onStack (hrow.exec_eq s) id⟩

end Sys2Proof.Laws
end

section
/-! PROOFS. The family 44_control_flow.md: the calls, which push `PC`, and the returns, which pop it. -/

namespace Sys2Proof.Laws

open Sys2Proof.Machine Sys2Proof.Claims

/-! ## Rows

The operations `callIf`, `retIf` and `retInt` are for one length each, so the lengths of their rows are said apart. -/

theorem callIf_rows (l h : Byte) : ∀ x ∈ Rows.callIf l h, IsRow x.1 x.2.1 (.callIf x.2.2 (joinBytes h l)) :=
  List.forall_iff_forall_mem.1 (by and_intros <;> exact ⟨fun _ => rfl, rfl⟩)

theorem callIf_rows_length (l h : Byte) : ∀ x ∈ Rows.callIf l h, x.1.length = 3 :=
  List.forall_iff_forall_mem.1 (by and_intros <;> rfl)

theorem rst_rows : ∀ x ∈ Rows.rst, IsRow x.1 x.2.1 (.call x.1.length x.2.2) :=
  List.forall_iff_forall_mem.1 (by and_intros <;> exact ⟨fun _ => rfl, rfl⟩)

theorem retIf_rows : ∀ x ∈ Rows.retIf, IsRow x.1 x.2.1 (.retIf x.2.2) :=
  List.forall_iff_forall_mem.1 (by and_intros <;> exact ⟨fun _ => rfl, rfl⟩)

theorem retIf_rows_length : ∀ x ∈ Rows.retIf, x.1.length = 1 :=
  List.forall_iff_forall_mem.1 (by and_intros <;> rfl)

theorem retInt_rows : ∀ x ∈ Rows.retInt, IsRow x.1 x.2 .retInt :=
  List.forall_iff_forall_mem.1 (by and_intros <;> exact ⟨fun _ => rfl, rfl⟩)

theorem retInt_rows_length : ∀ x ∈ Rows.retInt, x.1.length = 2 :=
  List.forall_iff_forall_mem.1 (by and_intros <;> rfl)

section Transfers

variable {code : List Byte} {i : Instr} {s : State} {cc : Cond} {target : Word}

/-! ## Calls -/

/-- A call stores `PC` below `SP`, then jumps: the jump touches no memory (44_control_flow.md R217). -/
theorem onStack_of_callTo (hexec : exec i s = callTo code.length target s) :
    OnStack code i s (s.sp - 1) (s.sp - 2)
      (NextStoringWord i s { s with sp := s.sp - 2, pc := target } (s.sp - 2) (s.sp - 1) (lowByte s.pc) (highByte s.pc)) :=
  have hpush : StackCases s (s.sp - 1) (s.sp - 2) _ _ := push16_cases s s.pc
  (hpush.map (·.jump target)).onStack hexec fun hnext => ⟨_, hnext, rfl, pushed_storedWord s (lowByte s.pc) (highByte s.pc)⟩

theorem exec_callIf_row (hrow : IsRow code i (.callIf cc target)) (hlength : code.length = 3) :
    exec i s = if s.cond cc then callTo code.length target s else .next s := by
  rw [hlength]; exact hrow.exec_eq s

/-! ## Returns -/

/-- An instruction that pops a word and goes on with `f` from it and the state that has `SP` past it. -/
theorem onStack_of_pop16 {f : Word × State → State}
    (hexec : exec i s = s.finish code.length (s.pop16 >>= fun o => .ok (f o))) :
    OnStack code i s s.sp (s.sp + 1) (exec i s = .next
      (f (joinBytes (s.mem.read (s.sp + 1).toNat) (s.mem.read s.sp.toNat), { s with sp := s.sp + 2 }))) :=
  have hpop : StackCases s s.sp (s.sp + 1) _ _ := pop16_cases s
  (hpop.map f).onStack hexec id

/-- A return takes `PC` from the stack (44_control_flow.md R219). -/
theorem onStack_of_retTo (hexec : exec i s = retTo code.length s) :
    OnStack code i s s.sp (s.sp + 1) (exec i s = .next
      { s with sp := s.sp + 2, pc := joinBytes (s.mem.read (s.sp + 1).toNat) (s.mem.read s.sp.toNat) }) :=
  onStack_of_pop16 (f := fun o => o.2.jump o.1) hexec

theorem exec_retIf_row (hrow : IsRow code i (.retIf cc)) (hlength : code.length = 1) :
    exec i s = if s.cond cc then retTo code.length s else .next s := by
  rw [hlength]; exact hrow.exec_eq s

/-- A return from an interrupt also copies `IFF2`, which the pop leaves as it is (44_control_flow.md R221, R222). -/
theorem onStack_of_retInterrupt (hexec : exec i s = retInterrupt code.length s) :
    OnStack code i s s.sp (s.sp + 1) (exec i s = .next
      { s with sp := s.sp + 2, pc := joinBytes (s.mem.read (s.sp + 1).toNat) (s.mem.read s.sp.toNat), iff1 := s.iff2 }) :=
  onStack_of_pop16 (f := fun o => { o.2.jump o.1 with iff1 := o.2.iff2 }) hexec

end Transfers

/-- Settles O31: `call`, a taken `call cc` and `rst` are `callTo`; an untaken `call cc` ends in the state it began in. -/
theorem calls : Obligations.Calls := by
  refine fun s l h => ⟨⟨fun _ => rfl, onStack_of_callTo rfl⟩, fun code i cc hmem => ?_, fun code i p hmem => ?_⟩
  · have hrow := callIf_rows l h _ hmem
    have hexec := exec_callIf_row (s := s) hrow (callIf_rows_length l h _ hmem)
    exact ⟨hrow.isCode, fun htaken => onStack_of_callTo (hexec.trans (if_pos htaken)),
      fun huntaken => hexec.trans (if_neg (Bool.eq_false_iff.1 huntaken))⟩
  · have hrow := rst_rows _ hmem
    exact ⟨hrow.isCode, onStack_of_callTo (hrow.exec_eq s)⟩

/-- Settles O32: `ret` and a taken `ret cc` are `retTo`, `reti` and every `retn` are `retInterrupt`; an untaken `ret cc` ends
in the state it began in. -/
theorem returns : Obligations.Returns := by
  refine fun s => ⟨⟨fun _ => rfl, onStack_of_retTo rfl⟩, fun code i cc hmem => ?_, fun code i hmem => ?_⟩
  · have hrow := retIf_rows _ hmem
    have hexec := exec_retIf_row (s := s) hrow (retIf_rows_length _ hmem)
    exact ⟨hrow.isCode, fun htaken => onStack_of_retTo (hexec.trans (if_pos htaken)),
      fun huntaken => hexec.trans (if_neg (Bool.eq_false_iff.1 huntaken))⟩
  · have hrow := retInt_rows _ hmem
    have hlength := retInt_rows_length _ hmem
    exact ⟨hrow.isCode, onStack_of_retInterrupt (by rw [hlength]; exact hrow.exec_eq s)⟩

end Sys2Proof.Laws
end

section
/-! PROOFS. The family 45_compare_block.md: `cp`, the block transfers and the block searches, one step and repeated. -/

namespace Sys2Proof.Laws

open Sys2Proof.Machine Sys2Proof.Claims

/-! ## Compare -/

theorem cp_rows (d n : Byte) : ∀ x ∈ Rows.cp d n, IsRow x.1 x.2.1 (.cp x.1.length x.2.2) :=
  List.forall_iff_forall_mem.1 (by and_intros <;> exact ⟨fun _ => rfl, rfl⟩)

/-- Settles O20: every row is `compareA` on its operand. -/
theorem compareAccumulator : Obligations.CompareAccumulator := by
  intro s d n code i src hmem
  have hrow := cp_rows d n _ hmem
  exact ⟨hrow.isCode, onSource_of_finish (hrow.exec_eq s) fun _ => id⟩

/-! ## Rows -/

/-- A row of the opcode table with the body of its execute phase. -/
structure IsPhase (code : List Byte) (i : Instr) (body : State → Except AccessFault State) : Prop where
  isCode : IsCode code i
  exec_eq (s : State) : exec i s = s.finish code.length (body s)

theorem ldOnce_rows : ∀ x ∈ ([([0xED, 0xA0], .ldi, .up), ([0xED, 0xA8], .ldd, .down)] : List (List Byte × Instr × Dir)),
    IsPhase x.1 x.2.1 (ldStep x.2.2) :=
  List.forall_iff_forall_mem.1 (by and_intros <;> exact ⟨fun _ => rfl, fun _ => rfl⟩)

theorem cpOnce_rows : ∀ x ∈ ([([0xED, 0xA1], .cpi, .up), ([0xED, 0xA9], .cpd, .down)] : List (List Byte × Instr × Dir)),
    IsPhase x.1 x.2.1 (cpStep x.2.2) :=
  List.forall_iff_forall_mem.1 (by and_intros <;> exact ⟨fun _ => rfl, fun _ => rfl⟩)

theorem ldRepeat_rows :
    ∀ x ∈ ([([0xED, 0xB0], .ldir, .up), ([0xED, 0xB8], .lddr, .down)] : List (List Byte × Instr × Dir)),
      IsPhase x.1 x.2.1 (repeatBlock (ldStep x.2.2) bcNotZero wordIterations) :=
  List.forall_iff_forall_mem.1 (by and_intros <;> exact ⟨fun _ => rfl, fun _ => rfl⟩)

theorem cpRepeat_rows :
    ∀ x ∈ ([([0xED, 0xB1], .cpir, .up), ([0xED, 0xB9], .cpdr, .down)] : List (List Byte × Instr × Dir)),
      IsPhase x.1 x.2.1 (repeatBlock (cpStep x.2.2) searchGoesOn wordIterations) :=
  List.forall_iff_forall_mem.1 (by and_intros <;> exact ⟨fun _ => rfl, fun _ => rfl⟩)

/-! ## What a repeat counts: addresses, draws, refreshes, `BC` -/

section Counts

variable {s t : State}

@[simp] theorem reach_zero (dir : Dir) (a : Word) : reach dir a 0 = a := by
  cases dir
  · exact BitVec.add_zero a
  · exact BitVec.sub_zero a

theorem reach_reach (dir : Dir) (a : Word) (j k : Nat) : reach dir (reach dir a j) k = reach dir a (j + k) := by
  cases dir
  · show a + BitVec.ofNat 16 j + BitVec.ofNat 16 k = a + BitVec.ofNat 16 (j + k)
    rw [BitVec.ofNat_add, BitVec.add_assoc]
  · show a - BitVec.ofNat 16 j - BitVec.ofNat 16 k = a - BitVec.ofNat 16 (j + k)
    rw [BitVec.ofNat_add, BitVec.sub_sub]

theorem sub_ofNat_sub_one (a : Word) (k : Nat) : a - BitVec.ofNat 16 k - 1 = a - BitVec.ofNat 16 (k + 1) :=
  reach_reach .down a k 1

theorem tookDraws_eq (s : State) (n : Nat) : s.tookDraws n = { s with draws := drawsAfter s n } := by
  unfold State.tookDraws drawsAfter
  cases s.params.undocFlags <;> rfl

@[simp] theorem drawsAfter_zero (s : State) : drawsAfter s 0 = s.draws := by
  unfold drawsAfter
  split <;> rfl

/-- After `m` draws the `k`-th next one is number `m + k`. -/
theorem drawn_after {m : Nat} (hparams : t.params = s.params) (hdraws : t.draws = drawsAfter s m) (k : Nat) (v : Bool) :
    drawn t k v = drawn s (m + k) v := by
  unfold drawn
  rw [hparams, hdraws]
  unfold drawsAfter
  cases s.params.undocFlags
  · rfl
  · exact congrArg Config.freeBit (Nat.add_assoc ..)

theorem drawsAfter_after {m : Nat} (hparams : t.params = s.params) (hdraws : t.draws = drawsAfter s m) (n : Nat) :
    drawsAfter t n = drawsAfter s (m + n) := by
  unfold drawsAfter at *
  rw [hparams, hdraws]
  cases s.params.undocFlags
  · rfl
  · exact Nat.add_assoc ..

theorem highBit_or_lowBits (r : Byte) : (r &&& 0x80#8) ||| BitVec.ofNat 8 (r.toNat % 128) = r := by
  revert r; decide

/-- Bit 7 of `R` is what a refresh leaves, the bits below it are the count it writes (30_encoding.md R102). -/
theorem highBit_or_mod_and (r : Byte) (k : Nat) :
    ((r &&& 0x80#8) ||| BitVec.ofNat 8 (k % 128)) &&& 0x80#8 = r &&& 0x80#8 := by
  have hlow : ∀ x : Fin 128, BitVec.ofNat 8 x.val &&& 0x80#8 = 0#8 := by decide
  rw [BitVec.and_or_distrib_right, hlow ⟨k % 128, Nat.mod_lt _ (by decide)⟩, BitVec.or_zero, BitVec.and_assoc,
    BitVec.and_self]

theorem highBit_or_mod_mod (r : Byte) (k : Nat) :
    ((r &&& 0x80#8) ||| BitVec.ofNat 8 (k % 128)).toNat % 128 = k % 128 := by
  have hhigh : (r.toNat &&& 128) % 2 ^ 7 = 0 := by rw [Nat.and_mod_two_pow]; exact Nat.and_zero _
  have hlow : k % 128 % 2 ^ 8 % 2 ^ 7 = k % 128 := by omega
  show ((r.toNat &&& 128) ||| k % 128 % 2 ^ 8) % 2 ^ 7 = k % 128
  rw [Nat.or_mod_two_pow, hhigh, hlow, Nat.zero_or]

@[simp] theorem refreshed_zero (s : State) : refreshed s 0 = s.r := by
  unfold refreshed
  split
  · rfl
  · exact highBit_or_lowBits s.r

/-- Refreshes add up. -/
theorem refreshed_after {m : Nat} (hparams : t.params = s.params) (hr : t.r = refreshed s m) (n : Nat) :
    refreshed t n = refreshed s (m + n) := by
  unfold refreshed at *
  rw [hparams]
  cases hmode : s.params.rMode <;> rw [hmode] at hr
  · exact hr
  · show (t.r &&& 0x80#8) ||| BitVec.ofNat 8 ((t.r.toNat + n) % 128) = _
    rw [hr, highBit_or_mod_and, Nat.add_mod, highBit_or_mod_mod, ← Nat.add_mod, Nat.add_assoc]

theorem updateR_after {m : Nat} (hparams : t.params = s.params) (hr : t.r = refreshed s m) (n : Nat) :
    t.updateR n = { t with r := refreshed s (m + n) } := by
  rw [updateR_eq, refreshed_after hparams hr]

theorem wordCount_pos (s : State) : 1 ≤ wordCount s := by
  unfold wordCount
  split <;> bv_omega

theorem wordCount_le (s : State) : wordCount s ≤ wordIterations := by
  unfold wordCount wordIterations
  split <;> bv_omega

/-- `BC` less the number of iterations is zero for the first time when the count is used up. -/
theorem bc_sub_eq_zero_iff {k : Nat} (hpos : 1 ≤ k) (hle : k ≤ wordCount s) :
    s.pair .bc - BitVec.ofNat 16 k = 0 ↔ k = wordCount s := by
  by_cases hbc : s.pair .bc = 0
  · rw [wordCount, if_pos hbc] at hle ⊢
    bv_omega
  · rw [wordCount, if_neg hbc] at hle ⊢
    bv_omega

/-- The test of a repeat, `BC != 0`, holds until the count is used up. -/
theorem bc_sub_ne_zero {k : Nat} (hpos : 1 ≤ k) (hle : k ≤ wordCount s) :
    (s.pair .bc - BitVec.ofNat 16 k != 0) = decide (k ≠ wordCount s) := by
  rw [Bool.eq_iff_iff, bne_iff_ne, decide_eq_true_iff]
  exact not_congr (bc_sub_eq_zero_iff hpos hle)

end Counts

@[simp] theorem setPair_pair (s : State) (p : Pair) : s.setPair p (s.pair p) = s := by
  cases p <;> simp [State.setPair, State.pair]

/-! ## The shape of a repeat

`walk k m` is the state after `k` iterations of which the refreshes between them counted `m` fetches. -/

section Repeat

variable {body : State → Except AccessFault State} {again : State → Bool} {walk : Nat → Nat → State} {n fuel : Nat}

/-- The repeat ends in the walk's first state that asks for no further iteration. -/
theorem repeatBlock_walk_answers (hrefresh : ∀ k m, (walk k m).updateR 2 = walk k (m + 2)) (hn : 1 ≤ n)
    (hfuel : n ≤ fuel) (hbody : ∀ k m, k < n → body (walk k m) = .ok (walk (k + 1) m))
    (hagain : ∀ k m, 1 ≤ k → k < n → again (walk k m) = true) (hlast : ∀ m, again (walk n m) = false) :
    repeatBlock body again fuel (walk 0 0) = .ok (walk n (2 * (n - 1))) := by
  refine repeatBlock_answers (fun k => walk k (2 * k)) (fun k => walk k (2 * (k - 1))) n (fun k => hbody k (2 * k))
    (fun k => hagain k (2 * (k - 1))) (fun k hk _ => ?_) (hlast _) (n - 1) 0 fuel (by omega) (by omega)
  rw [hrefresh, show 2 * (k - 1) + 2 = 2 * k by omega]

/-- The first iteration that faults is the repeat's fault. -/
theorem repeatBlock_walk_raises {e : AccessFault} (hrefresh : ∀ k m, (walk k m).updateR 2 = walk k (m + 2))
    (hfuel : n < fuel) (hbody : ∀ k m, k < n → body (walk k m) = .ok (walk (k + 1) m))
    (hagain : ∀ k m, 1 ≤ k → k ≤ n → again (walk k m) = true) (hraise : ∀ m, body (walk n m) = .error e) :
    repeatBlock body again fuel (walk 0 0) = .error e := by
  refine repeatBlock_raises (fun k => walk k (2 * k)) (fun k => walk k (2 * (k - 1))) n e (fun k => hbody k (2 * k))
    (fun k => hagain k (2 * (k - 1))) (fun k hk _ => ?_) (hraise _) n 0 fuel (by omega) (by omega) (by omega)
  rw [hrefresh, show 2 * (k - 1) + 2 = 2 * k by omega]

end Repeat

/-! ## One transfer -/

/-- `F` after a transfer of `v` (45_compare_block.md R241), `more` when `BC` is not used up; its two draws are numbered
from `base`. -/
def transferFlags (s : State) (base : Nat) (v : Byte) (more : Bool) : Flags :=
  { s.flags with h := false, n := false, pv := more, f5 := drawn s base ((v + s.a).getLsbD 1),
                 f3 := drawn s (base + 1) ((v + s.a).getLsbD 3) }

/-- The state after one transfer from `s`. -/
def transferred (dir : Dir) (s : State) : State :=
  let v := s.mem.read (s.pair .hl).toNat
  { ((s.setPair .hl (reach dir (s.pair .hl) 1)).setPair .de (reach dir (s.pair .de) 1)).setPair .bc (s.pair .bc - 1) with
    f := (transferFlags s 0 v (s.pair .bc - 1 != 0)).toByte,
    mem := s.mem.write (s.pair .de).toNat v, draws := drawsAfter s 2 }

/-- A transfer: its source missing, its destination missing, or the byte moved. -/
theorem ldStep_cases (dir : Dir) (s : State) :
    StackCases s (s.pair .hl) (s.pair .de) (ldStep dir s) (transferred dir s) := by
  refine ⟨fun hsrc => ?_, fun hsrc hdst => ?_, fun hsrc hdst => ?_⟩ <;> unfold ldStep
  · rw [memRead_missing hsrc]; rfl
  · rw [memRead_present hsrc]
    show s.memWrite _ _ >>= _ = _
    rw [memWrite_missing hdst]; rfl
  · rw [memRead_present hsrc]
    show s.memWrite _ _ >>= _ = _
    rw [memWrite_present hdst]
    show Except.ok (State.tookDraws _ 2) = _
    rw [tookDraws_eq]
    simp only [State.pair_setPair_same]
    cases dir <;> rfl

/-- Settles O41: both rows are one `ldStep`, which reads at `HL`, stores at `DE` and then changes no memory. -/
theorem blockTransferStep : Obligations.BlockTransferStep := by
  intro s code i dir hmem
  have hrow := ldOnce_rows _ hmem
  exact ⟨hrow.isCode, (ldStep_cases dir s).onStack (hrow.exec_eq s) fun hnext =>
    ⟨_, hnext, rfl, fun k => Memory.read_write ..⟩⟩

/-! ## The repeated transfer -/

section Transfers

variable {s : State} {dir : Dir}

/-- `F` after `n` transfers from `s`. -/
def transfersF (dir : Dir) (s : State) : Nat → Byte
  | 0 => s.f
  | n + 1 =>
    (transferFlags s (2 * n) ((movedBytes dir (s.pair .hl) (s.pair .de) n s.mem).read (reach dir (s.pair .hl) n).toNat)
      (s.pair .bc - BitVec.ofNat 16 (n + 1) != 0)).toByte

/-- The state after `n` transfers from `s`, the refreshes between them counting `m` fetches. -/
def transfers (dir : Dir) (s : State) (n m : Nat) : State :=
  { ((s.setPair .hl (reach dir (s.pair .hl) n)).setPair .de (reach dir (s.pair .de) n)).setPair .bc
      (s.pair .bc - BitVec.ofNat 16 n) with
    f := transfersF dir s n, mem := movedBytes dir (s.pair .hl) (s.pair .de) n s.mem,
    r := refreshed s m, draws := drawsAfter s (2 * n) }

theorem transfers_zero : transfers dir s 0 0 = s := by
  simp [transfers, transfersF, movedBytes]

@[simp] theorem transfers_hl (n m : Nat) : (transfers dir s n m).pair .hl = reach dir (s.pair .hl) n := joinBytes_halves _
@[simp] theorem transfers_de (n m : Nat) : (transfers dir s n m).pair .de = reach dir (s.pair .de) n := joinBytes_halves _
@[simp] theorem transfers_bc (n m : Nat) : (transfers dir s n m).pair .bc = s.pair .bc - BitVec.ofNat 16 n :=
  joinBytes_halves _

theorem updateR_transfers (n m : Nat) : (transfers dir s n m).updateR 2 = transfers dir s n (m + 2) :=
  updateR_after (s := s) (t := transfers dir s n m) rfl rfl 2

theorem transfers_flags (n m : Nat) : (transfers dir s (n + 1) m).flags = transferFlags s (2 * n)
    ((movedBytes dir (s.pair .hl) (s.pair .de) n s.mem).read (reach dir (s.pair .hl) n).toNat)
    (s.pair .bc - BitVec.ofNat 16 (n + 1) != 0) :=
  Flags.ofByte_toByte _

/-- Transfers keep `S`, `Z` and `C`, so the flags of the next one differ only in the numbers of its draws. -/
theorem transferFlags_transfers (n m : Nat) (v : Byte) (more : Bool) :
    transferFlags (transfers dir s n m) 0 v more = transferFlags s (2 * n) v more := by
  have hdrawn (k : Nat) (x : Bool) : drawn (transfers dir s n m) k x = drawn s (2 * n + k) x :=
    drawn_after (s := s) (t := transfers dir s n m) rfl rfl k x
  unfold transferFlags
  rw [hdrawn, hdrawn]
  cases n with
  | zero => rfl
  | succ n => rw [transfers_flags]; rfl

theorem transferred_transfers (n m : Nat) : transferred dir (transfers dir s n m) = transfers dir s (n + 1) m := by
  have hdraws : drawsAfter (transfers dir s n m) 2 = drawsAfter s (2 * (n + 1)) :=
    drawsAfter_after (s := s) (t := transfers dir s n m) rfl rfl 2
  unfold transferred
  simp only [transfers_hl, transfers_de, transfers_bc, transferFlags_transfers, hdraws, reach_reach, sub_ofNat_sub_one]
  rfl

/-- What the next transfer answers after `n` of them: no transfer changes which addresses exist. -/
theorem ldStep_transfers_cases (n m : Nat) : StackCases s (reach dir (s.pair .hl) n) (reach dir (s.pair .de) n)
    (ldStep dir (transfers dir s n m)) (transfers dir s (n + 1) m) := by
  have hcases := ldStep_cases dir (transfers dir s n m)
  rw [transfers_hl, transfers_de, transferred_transfers] at hcases
  exact hcases

theorem ldStep_transfers {n : Nat} (hmem : s.inMem (reach dir (s.pair .hl) n) ∧ s.inMem (reach dir (s.pair .de) n))
    (m : Nat) : ldStep dir (transfers dir s n m) = .ok (transfers dir s (n + 1) m) := by
  obtain ⟨-, -, hboth⟩ := ldStep_transfers_cases (s := s) (dir := dir) n m
  exact hboth hmem.1 hmem.2

theorem bcNotZero_transfers {k : Nat} (hpos : 1 ≤ k) (hle : k ≤ wordCount s) (m : Nat) :
    bcNotZero (transfers dir s k m) = decide (k ≠ wordCount s) := by
  unfold bcNotZero
  rw [transfers_bc, bc_sub_ne_zero hpos hle]

/-- The repeat does as many transfers as `BC` counts when all of them reach memory. -/
theorem ldRepeat_answers
    (hmem : ∀ k, k < wordCount s → s.inMem (reach dir (s.pair .hl) k) ∧ s.inMem (reach dir (s.pair .de) k)) :
    repeatBlock (ldStep dir) bcNotZero wordIterations s =
      .ok (transfers dir s (wordCount s) (2 * (wordCount s - 1))) := by
  have hanswers := repeatBlock_walk_answers (updateR_transfers (s := s) (dir := dir)) (wordCount_pos s) (wordCount_le s)
    (fun k m hk => ldStep_transfers (hmem k hk) m)
    (fun k m hpos hk => (bcNotZero_transfers hpos hk.le m).trans (decide_eq_true hk.ne))
    (fun m => (bcNotZero_transfers (wordCount_pos s) le_rfl m).trans (decide_eq_false (not_not.2 rfl)))
  rwa [transfers_zero] at hanswers

/-- The first transfer that reaches a missing cell faults there, at its source first (45_compare_block.md R241, R243). -/
theorem ldRepeat_raises {n : Nat} (hn : n < wordCount s)
    (hmem : ∀ k, k < n → s.inMem (reach dir (s.pair .hl) k) ∧ s.inMem (reach dir (s.pair .de) k)) :
    let body := repeatBlock (ldStep dir) bcNotZero wordIterations s
    let src := reach dir (s.pair .hl) n
    let dst := reach dir (s.pair .de) n
    (¬ s.inMem src → body = .error ⟨.mem, src.toNat⟩) ∧
      (s.inMem src → ¬ s.inMem dst → body = .error ⟨.mem, dst.toNat⟩) := by
  have hraises {e : AccessFault} (hraise : ∀ m, ldStep dir (transfers dir s n m) = .error e) :
      repeatBlock (ldStep dir) bcNotZero wordIterations s = .error e := by
    have hwalk := repeatBlock_walk_raises (updateR_transfers (s := s) (dir := dir)) (hn.trans_le (wordCount_le s))
      (fun k m hk => ldStep_transfers (hmem k hk) m)
      (fun k m hpos hk => (bcNotZero_transfers hpos (by omega) m).trans (decide_eq_true (by omega))) hraise
    rwa [transfers_zero] at hwalk
  refine ⟨fun hsrc => hraises fun m => ?_, fun hsrc hdst => hraises fun m => ?_⟩ <;>
    obtain ⟨hfirst, hsecond, -⟩ := ldStep_transfers_cases (s := s) (dir := dir) n m
  · exact hfirst hsrc
  · exact hsecond hsrc hdst

/-- Moves write no cell outside their destination. -/
theorem movedBytes_read_of_ne (src dst : Word) (m : Memory) {a n : Nat} (h : ∀ k, k < n → a ≠ (reach dir dst k).toNat) :
    (movedBytes dir src dst n m).read a = m.read a := by
  induction n with
  | zero => rfl
  | succ n ih =>
    rw [movedBytes, Memory.read_write, if_neg (h n n.lt_succ_self)]
    exact ih fun k hk => h k (hk.trans n.lt_succ_self)

/-- The state after the last transfer: `BC` is zero. -/
theorem transfers_wordCount (m : Nat) :
    transfers dir s (wordCount s) m =
      let n := wordCount s
      let v := (movedBytes dir (s.pair .hl) (s.pair .de) (n - 1) s.mem).read (reach dir (s.pair .hl) (n - 1)).toNat
      { ((s.setPair .hl (reach dir (s.pair .hl) n)).setPair .de (reach dir (s.pair .de) n)).setPair .bc 0 with
        f := (transferFlags s (2 * (n - 1)) v false).toByte, mem := movedBytes dir (s.pair .hl) (s.pair .de) n s.mem,
        r := refreshed s m, draws := drawsAfter s (2 * n) } := by
  have hbc := (bc_sub_eq_zero_iff (wordCount_pos s) le_rfl).2 rfl
  obtain ⟨n, hn⟩ := Nat.exists_eq_add_of_le' (wordCount_pos s)
  rw [hn] at hbc ⊢
  simp only [transfers, transfersF, hbc, Nat.add_sub_cancel]
  rfl

end Transfers

/-- Settles O44: the repeat walks through the states `transfers` to the last one, or to the first transfer that faults. -/
theorem blockTransferRepeat : Obligations.BlockTransferRepeat := by
  intro s code i dir hmem
  have hrow := ldRepeat_rows _ hmem
  refine ⟨hrow.isCode, fun hall => ⟨?_, fun a => movedBytes_read_of_ne _ _ _⟩, fun k hk hbefore => ?_⟩
  · rw [next_of_finish (hrow.exec_eq s) (ldRepeat_answers hall), transfers_wordCount]
    rfl
  · obtain ⟨hfirst, hsecond⟩ := ldRepeat_raises hk hbefore
    exact ⟨fun hsrc => raises_of_finish (hrow.exec_eq s) (hfirst hsrc),
      fun hsrc hdst => raises_of_finish (hrow.exec_eq s) (hsecond hsrc hdst)⟩

/-! ## One comparison of a search -/

/-- `F` after `A` is compared with `v` (45_compare_block.md R246), `more` when `BC` is not used up; its two draws are
numbered from `base`. -/
def searchFlags (s : State) (base : Nat) (v : Byte) (more : Bool) : Flags :=
  let o := sub8 s.a v false
  let t := o.res - BitVec.ofNat 8 o.h.toNat
  { s := o.s, z := o.z, f5 := drawn s base (t.getLsbD 1), h := o.h, f3 := drawn s (base + 1) (t.getLsbD 3), pv := more,
    n := true, c := s.flags.c }

/-- The state after one comparison from `s` with the byte `v`. -/
def searched (dir : Dir) (s : State) (v : Byte) : State :=
  { (s.setPair .hl (reach dir (s.pair .hl) 1)).setPair .bc (s.pair .bc - 1) with
    f := (searchFlags s 0 v (s.pair .bc - 1 != 0)).toByte, draws := drawsAfter s 2 }

theorem zeroExtend_ofBool (b : Bool) : (BitVec.ofBool b).zeroExtend 8 = BitVec.ofNat 8 b.toNat := by
  cases b <;> rfl

/-- A comparison loads its byte, then goes on without a fault. -/
theorem cpStep_eq (dir : Dir) (s : State) : cpStep dir s = s.loadLoc .hl >>= fun v => .ok (searched dir s v) := by
  simp only [cpStep, tookDraws_eq, zeroExtend_ofBool, State.pair_setPair_same]
  cases dir <;> rfl

theorem cpStep_cases (dir : Dir) (s : State) :
    ByteCases s .hl (cpStep dir s) fun a => searched dir s (s.mem.read a.toNat) := by
  rw [cpStep_eq]
  exact (loadLoc_cases s .hl).map (searched dir s)

/-- Settles O42: both rows are one `cpStep`, whose only access is the load of its byte. -/
theorem blockSearchStep : Obligations.BlockSearchStep := by
  intro s code i dir hmem
  have hrow := cpOnce_rows _ hmem
  exact ⟨hrow.isCode, (cpStep_cases dir s).onByte (hrow.exec_eq s) fun _ => id⟩

/-! ## The repeated comparison -/

/-- `Z` of a comparison says that the bytes are equal. -/
theorem sub8_z (a b : Byte) : (sub8 a b false).z = decide (b = a) := by
  obtain ⟨hres, -, hz, -⟩ := aluPrimitives.2.1 a b false
  rw [Bool.eq_iff_iff, hz, decide_eq_true_iff, ← BitVec.toNat_inj, ← BitVec.toNat_inj]
  change (_ : Int) = (a.toNat - b.toNat - 0) % 256 at hres
  show (sub8 a b false).res.toNat = 0 ↔ _
  omega

section Searches

variable {s : State} {dir : Dir}

/-- `F` after `n` comparisons from `s`. -/
def searchesF (dir : Dir) (s : State) : Nat → Byte
  | 0 => s.f
  | n + 1 =>
    (searchFlags s (2 * n) (s.mem.read (reach dir (s.pair .hl) n).toNat)
      (s.pair .bc - BitVec.ofNat 16 (n + 1) != 0)).toByte

/-- The state after `n` comparisons from `s`, the refreshes between them counting `m` fetches. -/
def searches (dir : Dir) (s : State) (n m : Nat) : State :=
  { (s.setPair .hl (reach dir (s.pair .hl) n)).setPair .bc (s.pair .bc - BitVec.ofNat 16 n) with
    f := searchesF dir s n, r := refreshed s m, draws := drawsAfter s (2 * n) }

theorem searches_zero : searches dir s 0 0 = s := by
  simp [searches, searchesF]

@[simp] theorem searches_hl (n m : Nat) : (searches dir s n m).pair .hl = reach dir (s.pair .hl) n := joinBytes_halves _
@[simp] theorem searches_bc (n m : Nat) : (searches dir s n m).pair .bc = s.pair .bc - BitVec.ofNat 16 n :=
  joinBytes_halves _

theorem updateR_searches (n m : Nat) : (searches dir s n m).updateR 2 = searches dir s n (m + 2) :=
  updateR_after (s := s) (t := searches dir s n m) rfl rfl 2

theorem searches_flags (n m : Nat) : (searches dir s (n + 1) m).flags =
    searchFlags s (2 * n) (s.mem.read (reach dir (s.pair .hl) n).toNat) (s.pair .bc - BitVec.ofNat 16 (n + 1) != 0) :=
  Flags.ofByte_toByte _

/-- Comparisons keep `A` and `C`, so the flags of the next one differ only in the numbers of its draws. -/
theorem searchFlags_searches (n m : Nat) (v : Byte) (more : Bool) :
    searchFlags (searches dir s n m) 0 v more = searchFlags s (2 * n) v more := by
  have hdrawn (k : Nat) (x : Bool) : drawn (searches dir s n m) k x = drawn s (2 * n + k) x :=
    drawn_after (s := s) (t := searches dir s n m) rfl rfl k x
  simp only [searchFlags, hdrawn]
  cases n with
  | zero => rfl
  | succ n => rw [searches_flags]; rfl

theorem searched_searches (n m : Nat) : searched dir (searches dir s n m) (s.mem.read (reach dir (s.pair .hl) n).toNat) =
    searches dir s (n + 1) m := by
  have hdraws : drawsAfter (searches dir s n m) 2 = drawsAfter s (2 * (n + 1)) :=
    drawsAfter_after (s := s) (t := searches dir s n m) rfl rfl 2
  unfold searched
  simp only [searches_hl, searches_bc, searchFlags_searches, hdraws, reach_reach, sub_ofNat_sub_one]
  rfl

theorem cpStep_searches {n : Nat} (hmem : s.inMem (reach dir (s.pair .hl) n)) (m : Nat) :
    cpStep dir (searches dir s n m) = .ok (searches dir s (n + 1) m) := by
  obtain ⟨-, -, hpresent⟩ := cpStep_cases dir (searches dir s n m)
  rw [← searched_searches]
  exact hpresent _ (congrArg Except.ok (searches_hl n m)) hmem

theorem cpStep_searches_raises {n : Nat} (hmem : ¬ s.inMem (reach dir (s.pair .hl) n)) (m : Nat) :
    cpStep dir (searches dir s n m) = .error ⟨.mem, (reach dir (s.pair .hl) n).toNat⟩ := by
  obtain ⟨-, hmissing, -⟩ := cpStep_cases dir (searches dir s n m)
  exact hmissing _ (congrArg Except.ok (searches_hl n m)) hmem

/-- The search goes on after an iteration whose byte is not `A` and whose count is not used up. -/
theorem searchGoesOn_searches {k : Nat} (hle : k + 1 ≤ wordCount s) (m : Nat) :
    searchGoesOn (searches dir s (k + 1) m) =
      (decide (k + 1 ≠ wordCount s) && !decide (s.mem.read (reach dir (s.pair .hl) k).toNat = s.a)) := by
  unfold searchGoesOn
  rw [searches_bc, bc_sub_ne_zero (Nat.le_add_left 1 k) hle, searches_flags, ← sub8_z]
  rfl

/-- The search ends after the first iteration whose byte is `A` or that uses up the count. -/
theorem cpRepeat_answers {n : Nat} (hn : n + 1 ≤ wordCount s)
    (hmem : ∀ k, k < n + 1 → s.inMem (reach dir (s.pair .hl) k))
    (hne : ∀ k, k < n → s.mem.read (reach dir (s.pair .hl) k).toNat ≠ s.a)
    (hend : n + 1 = wordCount s ∨ s.mem.read (reach dir (s.pair .hl) n).toNat = s.a) :
    repeatBlock (cpStep dir) searchGoesOn wordIterations s = .ok (searches dir s (n + 1) (2 * n)) := by
  have hanswers := repeatBlock_walk_answers (again := searchGoesOn) (updateR_searches (s := s) (dir := dir))
    (Nat.le_add_left 1 n) (hn.trans (wordCount_le s)) (fun k m hk => cpStep_searches (hmem k hk) m)
    (fun k m hpos hk => ?_) (fun m => ?_)
  · rwa [searches_zero] at hanswers
  · obtain ⟨k, rfl⟩ := Nat.exists_eq_add_of_le' hpos
    rw [searchGoesOn_searches (by omega)]
    simp [hne k (by omega), show k + 1 ≠ wordCount s by omega]
  · rw [searchGoesOn_searches hn]
    obtain hcount | hfound := hend
    · simp [hcount]
    · simp [hfound]

/-- A search that reaches a missing byte faults there. -/
theorem cpRepeat_raises {n : Nat} (hn : n < wordCount s)
    (hbefore : ∀ k, k < n → s.inMem (reach dir (s.pair .hl) k) ∧ s.mem.read (reach dir (s.pair .hl) k).toNat ≠ s.a)
    (hmem : ¬ s.inMem (reach dir (s.pair .hl) n)) :
    repeatBlock (cpStep dir) searchGoesOn wordIterations s = .error ⟨.mem, (reach dir (s.pair .hl) n).toNat⟩ := by
  have hraises := repeatBlock_walk_raises (again := searchGoesOn) (updateR_searches (s := s) (dir := dir))
    (hn.trans_le (wordCount_le s)) (fun k m hk => cpStep_searches (hbefore k hk).1 m)
    (fun k m hpos hk => ?_) (cpStep_searches_raises hmem)
  · rwa [searches_zero] at hraises
  · obtain ⟨k, rfl⟩ := Nat.exists_eq_add_of_le' hpos
    rw [searchGoesOn_searches (by omega)]
    simp [(hbefore k (by omega)).2, show k + 1 ≠ wordCount s by omega]

end Searches

/-- Settles O45: the repeat walks through the states `searches` to the first match or the end of the count, or to the
first missing byte. -/
theorem blockSearchRepeat : Obligations.BlockSearchRepeat := by
  intro s code i dir hmem
  have hrow := cpRepeat_rows _ hmem
  refine ⟨hrow.isCode, fun n hpos hn hall hne hend => ?_, fun k hk hbefore hmissing => ?_⟩
  · obtain ⟨n, rfl⟩ := Nat.exists_eq_add_of_le' hpos
    exact next_of_finish (hrow.exec_eq s) (cpRepeat_answers hn hall (fun k hk => hne k (by omega)) hend)
  · exact raises_of_finish (hrow.exec_eq s) (cpRepeat_raises hk hbefore hmissing)

end Sys2Proof.Laws
end

section
/-! PROOFS. The family 46_logic_control.md: `and`, `or`, `xor`, the instructions on `A` and the carry, `daa`, and CPU
control. -/

namespace Sys2Proof.Laws

open Sys2Proof.Machine Sys2Proof.Claims

/-! ## Logic on the accumulator -/

theorem and_rows (d n : Byte) : ∀ x ∈ Rows.and d n, IsRow x.1 x.2.1 (.and x.1.length x.2.2) :=
  List.forall_iff_forall_mem.1 (by and_intros <;> exact ⟨fun _ => rfl, rfl⟩)

theorem or_rows (d n : Byte) : ∀ x ∈ Rows.or d n, IsRow x.1 x.2.1 (.or x.1.length x.2.2) :=
  List.forall_iff_forall_mem.1 (by and_intros <;> exact ⟨fun _ => rfl, rfl⟩)

theorem xor_rows (d n : Byte) : ∀ x ∈ Rows.xor d n, IsRow x.1 x.2.1 (.xor x.1.length x.2.2) :=
  List.forall_iff_forall_mem.1 (by and_intros <;> exact ⟨fun _ => rfl, rfl⟩)

/-- Settles O21: every row is `logicA` on its operand, with the operator and the `H` its mnemonic names. -/
theorem logicAccumulator : Obligations.LogicAccumulator := by
  rintro s d n code i src op half (⟨hmem, rfl, rfl⟩ | ⟨hmem, rfl, rfl⟩ | ⟨hmem, rfl, rfl⟩)
  · have hrow := and_rows d n _ hmem
    exact ⟨hrow.isCode, onSource_of_finish (hrow.exec_eq s) fun _ => id⟩
  · have hrow := or_rows d n _ hmem
    exact ⟨hrow.isCode, onSource_of_finish (hrow.exec_eq s) fun _ => id⟩
  · have hrow := xor_rows d n _ hmem
    exact ⟨hrow.isCode, onSource_of_finish (hrow.exec_eq s) fun _ => id⟩

/-! ## Decimal adjust -/

/-- The corrections 6 and 0x60 share no bit, so joining them is adding them. -/
theorem daaCorrection_eq_ofNat (fixLow fixHigh : Prop) [Decidable fixLow] [Decidable fixHigh] :
    (if fixLow then 0x06#8 else 0#8) ||| (if fixHigh then 0x60#8 else 0#8) =
      BitVec.ofNat 8 ((if fixLow then 0x06 else 0) + (if fixHigh then 0x60 else 0)) := by
  split <;> split <;> rfl

/-- Settles O27: `daaAdjust` is its correction, subtracted or added as `N` says, and the `H` of that side. -/
theorem decimalAdjust : Obligations.DecimalAdjust := by
  refine fun s => ⟨fun _ => rfl, ?_⟩
  show exec_daa s = _
  simp only [exec_daa, daaAdjust, daaCorrection_eq_ofNat, Bool.or_eq_true, decide_eq_true_eq]
  split <;> rfl

/-! ## Negation -/

theorem neg_rows : ∀ x ∈ Rows.neg, IsRow x.1 x.2 .neg :=
  List.forall_iff_forall_mem.1 (by and_intros <;> exact ⟨fun _ => rfl, rfl⟩)

/-- `F` after the byte `v` is negated (46_logic_control.md R261): `Z`, `H`, `PV` and `C` read off the old value. -/
def negFlags (v : Byte) : Flags :=
  { s := (-v).getLsbD 7, z := v == 0, f5 := (-v).getLsbD 5, h := v.toNat % 16 != 0, f3 := (-v).getLsbD 3,
    pv := v == 0x80, n := true, c := v != 0 }

/-! ### A subtraction from zero

The primitive at a first operand 0 and no borrow. -/

theorem sub8_zero_res (v : Byte) : (sub8 0 v false).res = -v := by
  show BitVec.ofInt 8 (0 - v.toNat - 0) = -v
  rw [sub_zero, zero_sub, BitVec.ofInt_neg, BitVec.ofInt_natCast, BitVec.ofNat_toNat, BitVec.setWidth_eq]

theorem sub8_zero_z (v : Byte) : (sub8 0 v false).z = (v == 0) := by
  obtain ⟨-, -, hz, -⟩ := aluPrimitives.2.1 0 v false
  rw [Bool.eq_iff_iff, hz, beq_iff_eq, sub8_zero_res]
  exact BitVec.neg_eq_zero_iff

theorem sub8_zero_h (v : Byte) : (sub8 0 v false).h = (v.toNat % 16 != 0) := by
  obtain ⟨-, -, -, hh, -⟩ := aluPrimitives.2.1 0 v false
  rw [Bool.eq_iff_iff, hh, bne_iff_ne]
  show 0 < v.toNat % 16 + 0 ↔ v.toNat % 16 ≠ 0
  omega

theorem sub8_zero_v (v : Byte) : (sub8 0 v false).v = (v == 0x80) := by
  obtain ⟨-, -, -, -, hv, -⟩ := aluPrimitives.2.1 0 v false
  have hlo : -128 ≤ v.toInt := v.le_toInt
  have hhi : v.toInt < 128 := v.toInt_lt
  rw [Bool.eq_iff_iff, hv, beq_iff_eq, ← BitVec.toInt_inj]
  show 0 - v.toInt - 0 < -128 ∨ 127 < 0 - v.toInt - 0 ↔ v.toInt = -128
  omega

theorem sub8_zero_c (v : Byte) : (sub8 0 v false).c = (v != 0) := by
  obtain ⟨-, -, -, -, -, -, hc⟩ := aluPrimitives.2.1 0 v false
  rw [Bool.eq_iff_iff, hc, bne_iff_ne, ne_eq, ← BitVec.toNat_inj]
  show 0 < v.toNat + 0 ↔ ¬ v.toNat = 0
  omega

theorem commit_sub8_zero (x : Flags) (v : Byte) : (x.commitSZHVNC (sub8 0 v false)).bits53 (-v) = negFlags v := by
  unfold negFlags
  rw [← sub8_zero_z, ← sub8_zero_h, ← sub8_zero_v, ← sub8_zero_c, ← sub8_zero_res]
  rfl

theorem exec_neg_eq (s : State) : exec_neg s = .next ((s.setReg8 .a (-s.a)).setFlags (negFlags s.a)) := by
  simp only [exec_neg, sub8_zero_res, commit_sub8_zero]

/-! ## Complements and the carry -/

theorem exec_cpl_eq (s : State) : exec_cpl s = .next { s with
    a := ~~~s.a,
    f := Flags.toByte { s.flags with f5 := (~~~s.a).getLsbD 5, h := true, f3 := (~~~s.a).getLsbD 3, n := true } } := by
  have hnot : 255#8 - s.a = ~~~s.a := BitVec.allOnes_sub_eq_not s.a
  rw [exec_cpl, hnot]
  rfl

/-- Settles O26: `cpl` is a bitwise complement, every `neg` a subtraction from zero, and `ccf` and `scf` name the flags they
write. -/
theorem accumulatorAndCarry : Obligations.AccumulatorAndCarry := by
  refine fun s => ⟨⟨fun _ => rfl, exec_cpl_eq s⟩, fun code i hmem => ?_, ⟨fun _ => rfl, rfl⟩, ⟨fun _ => rfl, rfl⟩⟩
  have hrow := neg_rows _ hmem
  exact ⟨hrow.isCode, (hrow.exec_eq s).trans (exec_neg_eq s)⟩

/-! ## CPU control -/

theorem im_rows : ∀ x ∈ Rows.im, IsRow x.1 x.2.1 (.im x.2.2) :=
  List.forall_iff_forall_mem.1 (by and_intros <;> exact ⟨fun _ => rfl, rfl⟩)

/-- Settles O33: each instruction is one record update; the mode of an `im` is in its row. -/
theorem cpuControl : Obligations.CpuControl := by
  refine fun s => ⟨⟨fun _ => rfl, rfl⟩, ⟨fun _ => rfl, rfl⟩, ⟨fun _ => rfl, rfl⟩, ⟨fun _ => rfl, rfl⟩,
    fun code i mode hmem => ?_⟩
  have hrow := im_rows _ hmem
  exact ⟨hrow.isCode, hrow.exec_eq s⟩

end Sys2Proof.Laws
end

section
/-! PROOFS. The family 47_bit.md: `bit`, `set` and `res` on a register and on a memory byte. -/

namespace Sys2Proof.Laws

open Sys2Proof.Machine Sys2Proof.Claims

/-! ## An access that begins with a read -/

/-- An access that reads a byte operand and then goes on without a fault where the byte exists. -/
theorem byteCases_memRead {α : Type} {s : State} {loc : Loc} {f : Word → Byte → Except AccessFault α} {t : Word → α}
    (hpresent : ∀ a, s.inMem a → f a (s.mem.read a.toNat) = .ok (t a)) :
    ByteCases s loc (s.effAddr loc >>= fun a => s.memRead a >>= f a) t := by
  refine byteCases_effAddr (fun a hm => ?_) (fun a hm => ?_)
  · rw [memRead_missing hm]; rfl
  · rw [memRead_present hm]; exact hpresent a hm

/-! ## Bit tests -/

theorem bitReg_rows : ∀ x ∈ Rows.bitReg, IsRow x.1 x.2.1 (.bitReg x.2.2.1 x.2.2.2) :=
  List.forall_iff_forall_mem.1 (by and_intros <;> exact ⟨fun _ => rfl, rfl⟩)

/-- The execute phase of `bit b` on a memory operand: bits 5 and 3 come from the byte `src` of the address and the tested
byte (47_bit.md R291, R292). -/
def bitPhase (b : Nat) (loc : Loc) (src : Word → Byte → Byte) (s : State) : Except AccessFault State :=
  s.effAddr loc >>= fun a => s.memRead a >>= fun v => .ok (s.setFlags (s.flags.bitTest b v (src a v)))

theorem bitHl_rows : ∀ x ∈ Rows.bitHl, IsPhase x.1 x.2.1 (bitPhase x.2.2 .hl fun _ v => v) :=
  List.forall_iff_forall_mem.1 (by and_intros <;> exact ⟨fun _ => rfl, fun _ => rfl⟩)

theorem bitIdx_rows (d : Byte) :
    ∀ x ∈ Rows.bitIdx d, IsPhase x.1 x.2.1 (bitPhase x.2.2.1 (.idx x.2.2.2 d) fun a _ => highByte a) :=
  List.forall_iff_forall_mem.1 (by and_intros <;> exact ⟨fun _ => rfl, fun _ => rfl⟩)

theorem bitPhase_cases (b : Nat) (loc : Loc) (src : Word → Byte → Byte) (s : State) :
    ByteCases s loc (bitPhase b loc src s) fun a =>
      s.setFlags (s.flags.bitTest b (s.mem.read a.toNat) (src a (s.mem.read a.toNat))) :=
  byteCases_memRead fun _ _ => rfl

/-- Settles O34: every row is `bitTest` on its register, or on the byte its phase reads. -/
theorem bitTests : Obligations.BitTests := by
  refine fun s d => ⟨fun code i b r hmem => ?_, fun code i b hmem => ?_, fun code i b x hmem => ?_⟩
  · have hrow := bitReg_rows _ hmem
    exact ⟨hrow.isCode, hrow.exec_eq s⟩
  · have hrow := bitHl_rows _ hmem
    exact ⟨hrow.isCode, (bitPhase_cases b .hl _ s).onByte (hrow.exec_eq s) fun _ => id⟩
  · have hrow := bitIdx_rows d _ hmem
    exact ⟨hrow.isCode, (bitPhase_cases b (.idx x d) _ s).onByte (hrow.exec_eq s) fun _ => id⟩

/-! ## The bits of a byte after `set` and `res` -/

theorem getLsbD_setBit (b : Nat) (v : Byte) (k : Nat) (hk : k < 8) :
    (setBit b v).getLsbD k = if k = b then true else v.getLsbD k := by
  rw [setBit, ← BitVec.twoPow_eq, BitVec.getLsbD_or, BitVec.getLsbD_twoPow]
  split
  case isTrue h => simp [← h, hk]
  case isFalse h => simp [Ne.symm h]

theorem getLsbD_resBit (b : Nat) (v : Byte) (k : Nat) (hk : k < 8) :
    (resBit b v).getLsbD k = if k = b then false else v.getLsbD k := by
  have hmask : 255#8 - (1#8 <<< b) = ~~~(BitVec.twoPow 8 b) := BitVec.allOnes_sub_eq_not _
  rw [resBit, hmask, BitVec.getLsbD_and, BitVec.getLsbD_not, BitVec.getLsbD_twoPow]
  split
  case isTrue h => simp [← h, hk]
  case isFalse h => simp [Ne.symm h, hk]

/-! ## In a register -/

theorem setReg_rows : ∀ x ∈ Rows.setReg, IsRow x.1 x.2.1 (.setReg x.2.2.1 x.2.2.2) :=
  List.forall_iff_forall_mem.1 (by and_intros <;> exact ⟨fun _ => rfl, rfl⟩)

theorem resReg_rows : ∀ x ∈ Rows.resReg, IsRow x.1 x.2.1 (.resReg x.2.2.1 x.2.2.2) :=
  List.forall_iff_forall_mem.1 (by and_intros <;> exact ⟨fun _ => rfl, rfl⟩)

/-- Settles O35: every row is `mapReg` of `setBit` or `resBit`. -/
theorem setResRegister : Obligations.SetResRegister := by
  refine fun s => ⟨fun code i b r hmem => ?_, fun code i b r hmem => ?_⟩
  · have hrow := setReg_rows _ hmem
    exact ⟨hrow.isCode, setBit b (s.reg8 r), hrow.exec_eq s, getLsbD_setBit b (s.reg8 r)⟩
  · have hrow := resReg_rows _ hmem
    exact ⟨hrow.isCode, resBit b (s.reg8 r), hrow.exec_eq s, getLsbD_resBit b (s.reg8 r)⟩

/-! ## In memory -/

theorem setMem_rows (d : Byte) :
    ∀ x ∈ Rows.setMem d, IsRow x.1 x.2.1 (.setMem x.1.length x.2.2.1 x.2.2.2.1 x.2.2.2.2) :=
  List.forall_iff_forall_mem.1 (by and_intros <;> exact ⟨fun _ => rfl, rfl⟩)

theorem resMem_rows (d : Byte) :
    ∀ x ∈ Rows.resMem d, IsRow x.1 x.2.1 (.resMem x.1.length x.2.2.1 x.2.2.2.1 x.2.2.2.2) :=
  List.forall_iff_forall_mem.1 (by and_intros <;> exact ⟨fun _ => rfl, rfl⟩)

theorem mapMem_cases (f : Byte → Byte) (loc : Loc) (copy : Option Reg8) (s : State) :
    ByteCases s loc
      (s.effAddr loc >>= fun a => s.memRead a >>= fun v => s.memWrite a (f v) >>= fun t => .ok (t.copyTo copy (f v)))
      fun a => (s.storeByte a (f (s.mem.read a.toNat))).copyTo copy (f (s.mem.read a.toNat)) :=
  byteCases_memRead fun a hm => by rw [memWrite_present hm]; rfl

theorem nextStoring_storeByte_copyTo {i : Instr} {s : State} {a : Word} {v w : Byte} {copy : Option Reg8}
    (h : exec i s = .next ((s.storeByte a v).copyTo copy w)) : NextStoring i s (s.copyTo copy w) a v := by
  refine ⟨_, h, ?_, fun k => ?_⟩
  · match copy with
    | none => rfl
    | some r => cases r <;> rfl
  · rw [State.copyTo_mem]
    exact (storeByte_stored s a v).2 k

/-- An instruction that is `mapMem`: the byte it stores and copies stands to the old byte as `f` of a byte does. -/
theorem mapMem_onByte {code : List Byte} {i : Instr} {s : State} {f : Byte → Byte} {loc : Loc} {copy : Option Reg8}
    {Q : Byte → Byte → Prop} (hexec : exec i s = mapMem code.length f loc copy s) (hf : ∀ v, Q v (f v)) :
    OnByte code i s loc fun a v => ∃ w, Q v w ∧ NextStoring i s (s.copyTo copy w) a w :=
  (mapMem_cases f loc copy s).onByte hexec fun _ h =>
    ⟨_, hf _, nextStoring_storeByte_copyTo h⟩

/-- Settles O36: every row is `mapMem` of `setBit` or `resBit` on its operand. -/
theorem setResMemory : Obligations.SetResMemory := by
  rintro s d code i b loc copy one (⟨hmem, rfl⟩ | ⟨hmem, rfl⟩)
  · have hrow := setMem_rows d _ hmem
    exact ⟨hrow.isCode, mapMem_onByte (hrow.exec_eq s) (getLsbD_setBit b)⟩
  · have hrow := resMem_rows d _ hmem
    exact ⟨hrow.isCode, mapMem_onByte (hrow.exec_eq s) (getLsbD_resBit b)⟩

end Sys2Proof.Laws
end

section
/-! PROOFS. The family 48_io.md: the port transfers, and the block inputs and outputs, one step and repeated. -/

namespace Sys2Proof.Laws

open Sys2Proof.Machine Sys2Proof.Claims

/-! ## Port transfers -/

theorem inPort_rows : ∀ x ∈ Rows.inPort, IsRow x.1 x.2.1 (.inPort x.2.2) :=
  List.forall_iff_forall_mem.1 (by and_intros <;> exact ⟨fun _ => rfl, rfl⟩)

theorem outReg_rows : ∀ x ∈ Rows.outReg, IsRow x.1 x.2.1 (.outReg x.2.2) :=
  List.forall_iff_forall_mem.1 (by and_intros <;> exact ⟨fun _ => rfl, rfl⟩)

/-- No operand register is `F`, so the order in which an input writes its register and its flags does not matter. -/
theorem setFlags_copyTo (s : State) (x : Flags) (dst : Option Reg8) (v : Byte) :
    (s.setFlags x).copyTo dst v = (s.copyTo dst v).setFlags x := by
  cases dst with
  | none => rfl
  | some r => cases r <;> rfl

theorem inPort_eq (dst : Option Reg8) (s : State) :
    inPort dst s = .next ((s.copyTo dst (s.portRead s.c)).setFlags (s.flags.commitSZP (s.portRead s.c))) :=
  congrArg Host.Outcome.next (setFlags_copyTo ..)

/-- A port write changes the ports only, and there the one cell. -/
theorem wrote_of_portWrite {i : Instr} {s : State} {p v : Byte} (h : exec i s = .next (s.portWrite p v)) :
    ∃ t, exec i s = .next t ∧ t = { s with ports := t.ports } ∧
      ∀ q : Byte, t.portRead q = if q = p then v else s.portRead q :=
  ⟨_, h, rfl, fun q => portRead_portWrite s p q v⟩

/-- Settles O40: every row is `inPort` or one `portWrite`. -/
theorem portTransfers : Obligations.PortTransfers := by
  refine fun s n => ⟨⟨fun _ => rfl, rfl⟩, fun code i dst hmem => ?_, ⟨fun _ => rfl, wrote_of_portWrite rfl⟩,
    fun code i src hmem => ?_, ⟨fun _ => rfl, wrote_of_portWrite rfl⟩⟩
  · have hrow := inPort_rows _ hmem
    exact ⟨hrow.isCode, (hrow.exec_eq s).trans (inPort_eq dst s)⟩
  · have hrow := outReg_rows _ hmem
    exact ⟨hrow.isCode, wrote_of_portWrite (hrow.exec_eq s)⟩

/-! ## One block step -/

theorem inOnce_rows : ∀ x ∈ ([([0xED, 0xA2], .ini, .up), ([0xED, 0xAA], .ind, .down)] : List (List Byte × Instr × Dir)),
    IsPhase x.1 x.2.1 (inStep x.2.2) :=
  List.forall_iff_forall_mem.1 (by and_intros <;> exact ⟨fun _ => rfl, fun _ => rfl⟩)

theorem outOnce_rows :
    ∀ x ∈ ([([0xED, 0xA3], .outi, .up), ([0xED, 0xAB], .outd, .down)] : List (List Byte × Instr × Dir)),
      IsPhase x.1 x.2.1 (outStep x.2.2) :=
  List.forall_iff_forall_mem.1 (by and_intros <;> exact ⟨fun _ => rfl, fun _ => rfl⟩)

/-- The state after a step from `s` that leaves `hl` in `HL`, with the byte `v` and the sum `j` of its flags (48_io.md R316)
and the cells it leaves. -/
def ioStepped (s : State) (hl : Word) (v : Byte) (j : Nat) (mem ports : Memory) : State :=
  { (s.setPair .hl hl).setReg8 .b (s.b - 1) with
    f := (blockIoFlags s 0 v (s.b - 1) j).toByte, mem := mem, ports := ports, draws := drawsAfter s 7 }

/-- The state after one input from `s` to the address `a`. -/
def inputAt (dir : Dir) (s : State) (a : Word) : State :=
  let v := s.portRead s.c
  ioStepped s (reach dir a 1) v (v.toNat + (dir.step8 s.c).toNat) (s.mem.write a.toNat v) s.ports

/-- The state after one output from `s` of the byte at the address `a`. -/
def outputAt (dir : Dir) (s : State) (a : Word) : State :=
  let v := s.mem.read a.toNat
  ioStepped s (reach dir a 1) v (v.toNat + (lowByte (reach dir a 1)).toNat) s.mem (s.ports.write s.c.toNat v)

theorem ofNat_and_seven (j : Nat) : BitVec.ofNat 8 j &&& 7#8 = BitVec.ofNat 8 (j % 8) := by
  apply BitVec.eq_of_toNat_eq
  rw [BitVec.toNat_and, show (7#8).toNat = 2 ^ 3 - 1 from rfl, Nat.and_two_pow_sub_one_eq_mod]
  simp only [BitVec.toNat_ofNat]
  omega

theorem ioFlags_eq (v : Byte) (j : Nat) (s : State) :
    ioFlags v j s = { s with f := (blockIoFlags s 0 v s.b j).toByte, draws := drawsAfter s 7 } := by
  simp only [ioFlags, tookDraws_eq, ofNat_and_seven]
  rfl

theorem dirStep_eq_reach (dir : Dir) (a : Word) : dir.step a = reach dir a 1 := by cases dir <;> rfl

/-- The one access of an instruction whose operand is `(HL)`. -/
theorem byteCases_hl {α : Type} {s : State} {x : Except AccessFault α} {t : Word → α}
    (hmissing : ¬ s.inMem (s.pair .hl) → x = .error ⟨.mem, (s.pair .hl).toNat⟩)
    (hpresent : s.inMem (s.pair .hl) → x = .ok (t (s.pair .hl))) : ByteCases s .hl x t := by
  refine ⟨?_, ?_, ?_⟩
  · rintro _ ⟨⟩
  · rintro _ ⟨⟩ hm
    exact hmissing hm
  · rintro _ ⟨⟩ hm
    exact hpresent hm

theorem inStep_cases (dir : Dir) (s : State) : ByteCases s .hl (inStep dir s) (inputAt dir s) := by
  refine byteCases_hl (fun hm => ?_) (fun hm => ?_) <;> unfold inStep <;> show s.memWrite _ _ >>= _ = _
  · rw [memWrite_missing hm]; rfl
  · rw [memWrite_present hm]
    show Except.ok (ioFlags _ _ _) = _
    rw [ioFlags_eq, dirStep_eq_reach]
    rfl

theorem outStep_cases (dir : Dir) (s : State) : ByteCases s .hl (outStep dir s) (outputAt dir s) := by
  refine byteCases_hl (fun hm => ?_) (fun hm => ?_) <;> unfold outStep
  · rw [memRead_missing hm]; rfl
  · rw [memRead_present hm]
    show Except.ok (ioFlags _ _ _) = _
    rw [ioFlags_eq, dirStep_eq_reach]
    rfl

/-- Settles O43: both inputs are one `inStep`, both outputs one `outStep`. -/
theorem blockIoStep : Obligations.BlockIoStep := by
  refine fun s => ⟨fun code i dir hmem => ?_, fun code i dir hmem => ?_⟩
  · have hrow := inOnce_rows _ hmem
    exact ⟨hrow.isCode, (inStep_cases dir s).onByte (hrow.exec_eq s) fun a hnext =>
      ⟨_, hnext, rfl, fun k => Memory.read_write ..⟩⟩
  · have hrow := outOnce_rows _ hmem
    exact ⟨hrow.isCode, (outStep_cases dir s).onByte (hrow.exec_eq s) fun a hnext =>
      ⟨_, hnext, rfl, fun q => portRead_portWrite s s.c q _⟩⟩

/-! ## What `B` counts -/

section Counts

variable {s t : State}

theorem byteCount_pos (s : State) : 1 ≤ byteCount s := by
  unfold byteCount
  split <;> bv_omega

theorem byteCount_le (s : State) : byteCount s ≤ byteIterations := by
  unfold byteCount byteIterations
  split <;> bv_omega

/-- `B` less the number of transfers is zero for the first time when the count is used up. -/
theorem b_sub_eq_zero_iff {k : Nat} (hpos : 1 ≤ k) (hle : k ≤ byteCount s) :
    s.b - BitVec.ofNat 8 k = 0 ↔ k = byteCount s := by
  by_cases hb : s.b = 0
  · rw [byteCount, if_pos hb] at hle ⊢
    bv_omega
  · rw [byteCount, if_neg hb] at hle ⊢
    bv_omega

theorem b_sub_sub_one (b : Byte) (k : Nat) : b - BitVec.ofNat 8 k - 1 = b - BitVec.ofNat 8 (k + 1) := by
  rw [BitVec.ofNat_add, BitVec.sub_sub]
  rfl

/-- After `m` draws the flags of a step take the draws from number `m` on. -/
theorem blockIoFlags_after {m : Nat} (hparams : t.params = s.params) (hdraws : t.draws = drawsAfter s m) (v b : Byte)
    (j : Nat) : blockIoFlags t 0 v b j = blockIoFlags s m v b j := by
  simp only [blockIoFlags, drawn_after hparams hdraws, Nat.zero_add, Nat.add_zero]

end Counts

/-! ## The shape of a block repeat -/

/-- The states `walk k m` that a repeat counted by `B` goes through from `s`: after `k` transfers, of which the refreshes
between them counted `m` fetches; the next transfer faults exactly when its byte is missing. -/
structure IoWalk (dir : Dir) (s : State) (step : State → Except AccessFault State) (walk : Nat → Nat → State) : Prop where
  start : walk 0 0 = s
  refresh : ∀ k m, (walk k m).updateR 2 = walk k (m + 2)
  b_eq : ∀ k m, (walk k m).b = s.b - BitVec.ofNat 8 k
  present : ∀ k m, s.inMem (reach dir (s.pair .hl) k) → step (walk k m) = .ok (walk (k + 1) m)
  missing : ∀ k m, ¬ s.inMem (reach dir (s.pair .hl) k) →
    step (walk k m) = .error ⟨.mem, (reach dir (s.pair .hl) k).toNat⟩

section Repeat

variable {dir : Dir} {s : State} {step : State → Except AccessFault State} {walk : Nat → Nat → State}

theorem IoWalk.bNotZero_eq (h : IoWalk dir s step walk) {k : Nat} (hpos : 1 ≤ k) (hle : k ≤ byteCount s) (m : Nat) :
    bNotZero (walk k m) = decide (k ≠ byteCount s) := by
  rw [bNotZero, h.b_eq, Bool.eq_iff_iff, bne_iff_ne, decide_eq_true_iff]
  exact not_congr (b_sub_eq_zero_iff hpos hle)

/-- The repeat does as many transfers as `B` counts when all of them reach memory. -/
theorem IoWalk.answers (h : IoWalk dir s step walk) (hmem : ∀ k, k < byteCount s → s.inMem (reach dir (s.pair .hl) k)) :
    repeatBlock step bNotZero byteIterations s = .ok (walk (byteCount s) (2 * (byteCount s - 1))) := by
  have hanswers := repeatBlock_walk_answers h.refresh (byteCount_pos s) (byteCount_le s)
    (fun k m hk => h.present k m (hmem k hk))
    (fun k m hpos hk => (h.bNotZero_eq hpos hk.le m).trans (decide_eq_true hk.ne))
    (fun m => (h.bNotZero_eq (byteCount_pos s) le_rfl m).trans (decide_eq_false (not_not.2 rfl)))
  rwa [h.start] at hanswers

/-- The first transfer that reaches a missing byte faults there. -/
theorem IoWalk.raises (h : IoWalk dir s step walk) {n : Nat} (hn : n < byteCount s)
    (hmem : ∀ k, k < n → s.inMem (reach dir (s.pair .hl) k)) (hmissing : ¬ s.inMem (reach dir (s.pair .hl) n)) :
    repeatBlock step bNotZero byteIterations s = .error ⟨.mem, (reach dir (s.pair .hl) n).toNat⟩ := by
  have hraises := repeatBlock_walk_raises h.refresh (hn.trans_le (byteCount_le s))
    (fun k m hk => h.present k m (hmem k hk))
    (fun k m hpos hk => (h.bNotZero_eq hpos (by omega) m).trans (decide_eq_true (by omega)))
    (fun m => h.missing n m hmissing)
  rwa [h.start] at hraises

/-! ## The states of a block repeat -/

variable (v : Nat → Byte) (j : Nat → Nat)

/-- `F` after `n` transfers from `s`, the `k`-th with the byte `v k` and the sum `j k`. -/
def ioStepsF (s : State) : Nat → Byte
  | 0 => s.f
  | n + 1 => (blockIoFlags s (7 * n) (v n) (s.b - BitVec.ofNat 8 (n + 1)) (j n)).toByte

/-- The state after `n` transfers from `s` that leave the cells `mem` and `ports`, the refreshes between the transfers counting
`m` fetches. -/
def ioSteps (dir : Dir) (s : State) (n m : Nat) (mem ports : Memory) : State :=
  { (s.setPair .hl (reach dir (s.pair .hl) n)).setReg8 .b (s.b - BitVec.ofNat 8 n) with
    f := ioStepsF v j s n, mem := mem, ports := ports, r := refreshed s m, draws := drawsAfter s (7 * n) }

variable {v : Nat → Byte} {j : Nat → Nat} {n m : Nat} {mem ports : Memory}

theorem ioSteps_zero : ioSteps v j dir s 0 0 s.mem s.ports = s := by
  simp [ioSteps, ioStepsF, State.setReg8]

theorem ioSteps_hl : (ioSteps v j dir s n m mem ports).pair .hl = reach dir (s.pair .hl) n := joinBytes_halves _

theorem updateR_ioSteps :
    (ioSteps v j dir s n m mem ports).updateR 2 = ioSteps v j dir s n (m + 2) mem ports :=
  updateR_after (s := s) (t := ioSteps v j dir s n m mem ports) rfl rfl 2

/-- One more transfer, with its own byte and sum. -/
theorem ioStepped_ioSteps (mem' ports' : Memory) :
    ioStepped (ioSteps v j dir s n m mem ports) (reach dir (reach dir (s.pair .hl) n) 1) (v n) (j n) mem' ports' =
      ioSteps v j dir s (n + 1) m mem' ports' := by
  have hdraws : drawsAfter (ioSteps v j dir s n m mem ports) 7 = drawsAfter s (7 * (n + 1)) :=
    drawsAfter_after (s := s) (t := ioSteps v j dir s n m mem ports) rfl rfl 7
  have hflags (b : Byte) : blockIoFlags (ioSteps v j dir s n m mem ports) 0 (v n) b (j n) =
      blockIoFlags s (7 * n) (v n) b (j n) :=
    blockIoFlags_after (s := s) (t := ioSteps v j dir s n m mem ports) rfl rfl _ _ _
  have hb : (ioSteps v j dir s n m mem ports).b - 1 = s.b - BitVec.ofNat 8 (n + 1) := b_sub_sub_one s.b n
  unfold ioStepped
  simp only [reach_reach, hdraws, hflags, hb]
  rfl

/-- The state after the last transfer: `B` is zero. -/
theorem ioSteps_byteCount :
    ioSteps v j dir s (byteCount s) m mem ports =
      { (s.setPair .hl (reach dir (s.pair .hl) (byteCount s))).setReg8 .b 0 with
        f := (blockIoFlags s (7 * (byteCount s - 1)) (v (byteCount s - 1)) 0 (j (byteCount s - 1))).toByte,
        mem := mem, ports := ports, r := refreshed s m, draws := drawsAfter s (7 * byteCount s) } := by
  have hb := (b_sub_eq_zero_iff (byteCount_pos s) le_rfl).2 rfl
  obtain ⟨n, hn⟩ := Nat.exists_eq_add_of_le' (byteCount_pos s)
  rw [hn] at hb ⊢
  simp only [ioSteps, ioStepsF, hb, Nat.add_sub_cancel]

end Repeat

/-! ## The repeated input -/

section Inputs

variable {dir : Dir} {s : State}

theorem inRepeat_rows :
    ∀ x ∈ ([([0xED, 0xB2], .inir, .up), ([0xED, 0xBA], .indr, .down)] : List (List Byte × Instr × Dir)),
      IsPhase x.1 x.2.1 (repeatBlock (inStep x.2.2) bNotZero byteIterations) :=
  List.forall_iff_forall_mem.1 (by and_intros <;> exact ⟨fun _ => rfl, fun _ => rfl⟩)

/-- The byte `v` stored in `n` cells from `a` on, one by one. -/
def filledBytes (dir : Dir) (a : Word) (v : Byte) : Nat → Memory → Memory
  | 0, mem => mem
  | n + 1, mem => (filledBytes dir a v n mem).write (reach dir a n).toNat v

theorem filledBytes_read_of_ne (a : Word) (v : Byte) (mem : Memory) {n c : Nat}
    (h : ∀ k, k < n → c ≠ (reach dir a k).toNat) : (filledBytes dir a v n mem).read c = mem.read c := by
  induction n with
  | zero => rfl
  | succ n ih =>
    rw [filledBytes, Memory.read_write, if_neg (h n n.lt_succ_self)]
    exact ih fun k hk => h k (hk.trans n.lt_succ_self)

/-- A cell stored twice holds `v` as well. -/
theorem filledBytes_read_reach (a : Word) (v : Byte) (mem : Memory) {n k : Nat} (hk : k < n) :
    (filledBytes dir a v n mem).read (reach dir a k).toNat = v := by
  induction n with
  | zero => exact absurd hk k.not_lt_zero
  | succ n ih =>
    rw [filledBytes, Memory.read_write]
    obtain hk | rfl := Nat.lt_succ_iff_lt_or_eq.1 hk
    · rw [ih hk, ite_self]
    · rw [if_pos rfl]

/-- The state after `n` inputs from `s`, the refreshes between them counting `m` fetches. -/
def inputs (dir : Dir) (s : State) (n m : Nat) : State :=
  let v := s.portRead s.c
  ioSteps (fun _ => v) (fun _ => v.toNat + (dir.step8 s.c).toNat) dir s n m (filledBytes dir (s.pair .hl) v n s.mem) s.ports

/-- An input changes neither `C` nor the ports, so the next one takes the same byte. -/
theorem inputAt_inputs (n m : Nat) :
    inputAt dir (inputs dir s n m) (reach dir (s.pair .hl) n) = inputs dir s (n + 1) m :=
  ioStepped_ioSteps ..

theorem inputs_walk : IoWalk dir s (inStep dir) (inputs dir s) where
  start := ioSteps_zero
  refresh _ _ := updateR_ioSteps
  b_eq _ _ := rfl
  present k m hm := by
    obtain ⟨-, -, hpresent⟩ := inStep_cases dir (inputs dir s k m)
    rw [← inputAt_inputs]
    exact hpresent _ (congrArg Except.ok ioSteps_hl) hm
  missing k m hm := by
    obtain ⟨-, hmissing, -⟩ := inStep_cases dir (inputs dir s k m)
    exact hmissing _ (congrArg Except.ok ioSteps_hl) hm

end Inputs

/-! ## The repeated output -/

section Outputs

variable {dir : Dir} {s : State}

theorem outRepeat_rows :
    ∀ x ∈ ([([0xED, 0xB3], .otir, .up), ([0xED, 0xBB], .otdr, .down)] : List (List Byte × Instr × Dir)),
      IsPhase x.1 x.2.1 (repeatBlock (outStep x.2.2) bNotZero byteIterations) :=
  List.forall_iff_forall_mem.1 (by and_intros <;> exact ⟨fun _ => rfl, fun _ => rfl⟩)

/-- The byte that the output number `k` from `s` takes. -/
def outByte (dir : Dir) (s : State) (k : Nat) : Byte := s.mem.read (reach dir (s.pair .hl) k).toNat

/-- The ports after `n` outputs from `s`, all to port `C`. -/
def outPorts (dir : Dir) (s : State) : Nat → Memory
  | 0 => s.ports
  | n + 1 => (outPorts dir s n).write s.c.toNat (outByte dir s n)

/-- The last output is the one that stays. -/
theorem outPorts_read (n a : Nat) :
    (outPorts dir s (n + 1)).read a = if a = s.c.toNat then outByte dir s n else s.ports.read a := by
  induction n with
  | zero => exact Memory.read_write ..
  | succ n ih =>
    rw [outPorts, Memory.read_write, ih]
    split <;> rfl

/-- The sum in the flags of the output number `k` from `s`: the byte and the `L` it leaves (48_io.md R316). -/
def outSum (dir : Dir) (s : State) (k : Nat) : Nat :=
  (outByte dir s k).toNat + (lowByte (reach dir (s.pair .hl) (k + 1))).toNat

/-- The state after `n` outputs from `s`, the refreshes between them counting `m` fetches. -/
def outputs (dir : Dir) (s : State) (n m : Nat) : State :=
  ioSteps (outByte dir s) (outSum dir s) dir s n m s.mem (outPorts dir s n)

/-- An output changes neither `C` nor memory, so the next one takes the next byte to the same port. -/
theorem outputAt_outputs (n m : Nat) :
    outputAt dir (outputs dir s n m) (reach dir (s.pair .hl) n) = outputs dir s (n + 1) m := by
  unfold outputs
  rw [← ioStepped_ioSteps, outSum, ← reach_reach]
  rfl

theorem outputs_walk : IoWalk dir s (outStep dir) (outputs dir s) where
  start := ioSteps_zero
  refresh _ _ := updateR_ioSteps
  b_eq _ _ := rfl
  present k m hm := by
    obtain ⟨-, -, hpresent⟩ := outStep_cases dir (outputs dir s k m)
    rw [← outputAt_outputs]
    exact hpresent _ (congrArg Except.ok ioSteps_hl) hm
  missing k m hm := by
    obtain ⟨-, hmissing, -⟩ := outStep_cases dir (outputs dir s k m)
    exact hmissing _ (congrArg Except.ok ioSteps_hl) hm

theorem outputs_portRead {n : Nat} (hpos : 1 ≤ n) (m : Nat) (q : Byte) :
    (outputs dir s n m).portRead q = if q = s.c then outByte dir s (n - 1) else s.portRead q := by
  obtain ⟨n, rfl⟩ := Nat.exists_eq_add_of_le' hpos
  show (outPorts dir s (n + 1)).read q.toNat = _
  rw [outPorts_read]
  simp only [BitVec.toNat_inj]
  rfl

/-- The sum of the last output has the `L` that the repeat leaves. -/
theorem outSum_last : outSum dir s (byteCount s - 1) =
    (outByte dir s (byteCount s - 1)).toNat + (lowByte (reach dir (s.pair .hl) (byteCount s))).toNat := by
  rw [outSum, Nat.sub_add_cancel (byteCount_pos s)]

end Outputs

/-- Settles O46: the inputs fill their range with one byte, the outputs leave their last one in the port; both walk to the
last transfer or to the first that faults. -/
theorem blockIoRepeat : Obligations.BlockIoRepeat := by
  refine fun s => ⟨fun code i dir hmem => ?_, fun code i dir hmem => ?_⟩
  · have hrow := inRepeat_rows _ hmem
    exact ⟨hrow.isCode, fun hall => ⟨_, next_of_finish (hrow.exec_eq s) (inputs_walk.answers hall), ioSteps_byteCount,
      fun k => filledBytes_read_reach _ _ _, fun a => filledBytes_read_of_ne _ _ _⟩,
      fun k hk hbefore hmissing => raises_of_finish (hrow.exec_eq s) (inputs_walk.raises hk hbefore hmissing)⟩
  · have hrow := outRepeat_rows _ hmem
    refine ⟨hrow.isCode, fun hall => ⟨_, next_of_finish (hrow.exec_eq s) (outputs_walk.answers hall), ?_,
      outputs_portRead (byteCount_pos s) _⟩,
      fun k hk hbefore hmissing => raises_of_finish (hrow.exec_eq s) (outputs_walk.raises hk hbefore hmissing)⟩
    exact ioSteps_byteCount.trans (by rw [outSum_last]; rfl)

end Sys2Proof.Laws
end

section
/-! PROOFS. The family 49_rotate_shift.md: the rotate primitive as arithmetic, the rotates and shifts of a register and of a
memory byte, and `rld` and `rrd`. -/

namespace Sys2Proof.Laws

open Sys2Proof.Machine Sys2Proof.Claims

/-! ## Shifts that make room for other bits -/

/-- The low `k` bits that a shift to the left vacates take a number below `2 ^ k`. -/
theorem toNat_shiftLeft_or (k : Nat) (v x : Byte) (hk : k ≤ 8) (hx : x.toNat < 2 ^ k) :
    (v <<< k ||| x).toNat = v.toNat * 2 ^ k % 256 + x.toNat := by
  have hshift : (v <<< k).toNat = (v.toNat % 2 ^ (8 - k)) <<< k := by
    rw [BitVec.toNat_shiftLeft, Nat.shiftLeft_eq, Nat.shiftLeft_eq, ← Nat.mul_mod_mul_right, ← Nat.pow_add,
      Nat.sub_add_cancel hk]
  rw [BitVec.toNat_or, hshift, ← Nat.shiftLeft_add_eq_or_of_lt hx, ← hshift, BitVec.toNat_shiftLeft, Nat.shiftLeft_eq]

theorem and_bit7_eq (v : Byte) : v &&& 0x80#8 = (v >>> 7) <<< 7 := by revert v; decide

theorem and_highNibble_eq (v : Byte) : v &&& 0xF0#8 = (v >>> 4) <<< 4 := by revert v; decide

theorem toNat_and_lowNibble (v : Byte) : (v &&& 0x0F#8).toNat = v.toNat % 16 :=
  Nat.and_two_pow_sub_one_eq_mod v.toNat 4

theorem toNat_ushiftRight_eq_div (v : Byte) (k : Nat) : (v >>> k).toNat = v.toNat / 2 ^ k := by
  rw [BitVec.toNat_ushiftRight, Nat.shiftRight_eq_div_pow]

/-! ## The rotate primitive -/

theorem toNat_rlc (v : Byte) (c : Bool) : (rot .rlc v c).1.toNat = v.toNat * 2 % 256 + v.toNat / 128 := by
  have hv := v.isLt
  have hbit := toNat_ushiftRight_eq_div v 7
  show (v <<< 1 ||| v >>> 7).toNat = _
  rw [toNat_shiftLeft_or 1 _ _ (by omega) (by omega), hbit]
  rfl

theorem toNat_rrc (v : Byte) (c : Bool) : (rot .rrc v c).1.toNat = v.toNat / 2 + v.toNat % 2 * 128 := by
  have hv := v.isLt
  have hrest := toNat_ushiftRight_eq_div v 1
  show (v >>> 1 ||| v <<< 7).toNat = _
  rw [BitVec.or_comm, toNat_shiftLeft_or 7 _ _ (by omega) (by omega), hrest]
  omega

theorem toNat_zeroExtend_ofBool (c : Bool) : ((BitVec.ofBool c).zeroExtend 8).toNat = c.toNat := by cases c <;> rfl

theorem toNat_rl (v : Byte) (c : Bool) : (rot .rl v c).1.toNat = v.toNat * 2 % 256 + c.toNat := by
  have hc := c.toNat_le
  have hbit := toNat_zeroExtend_ofBool c
  show (v <<< 1 ||| (BitVec.ofBool c).zeroExtend 8).toNat = _
  rw [toNat_shiftLeft_or 1 _ _ (by omega) (by omega), hbit]
  rfl

theorem toNat_rr (v : Byte) (c : Bool) : (rot .rr v c).1.toNat = v.toNat / 2 + c.toNat * 128 := by
  have hv := v.isLt
  have hc := c.toNat_le
  have hrest := toNat_ushiftRight_eq_div v 1
  show (v >>> 1 ||| (BitVec.ofBool c).zeroExtend 8 <<< 7).toNat = _
  rw [BitVec.or_comm, toNat_shiftLeft_or 7 _ _ (by omega) (by omega), hrest, toNat_zeroExtend_ofBool]
  omega

theorem toNat_sla (v : Byte) (c : Bool) : (rot .sla v c).1.toNat = v.toNat * 2 % 256 := by
  show (v <<< 1).toNat = _
  rw [BitVec.toNat_shiftLeft, Nat.shiftLeft_eq]

theorem toNat_sra (v : Byte) (c : Bool) : (rot .sra v c).1.toNat = v.toNat / 2 + v.toNat / 128 * 128 := by
  have hv := v.isLt
  have hrest := toNat_ushiftRight_eq_div v 1
  show (v >>> 1 ||| (v &&& 0x80#8)).toNat = _
  rw [and_bit7_eq, BitVec.or_comm, toNat_shiftLeft_or 7 _ _ (by omega) (by omega), hrest, toNat_ushiftRight_eq_div]
  omega

theorem toNat_sll (v : Byte) (c : Bool) : (rot .sll v c).1.toNat = v.toNat * 2 % 256 + 1 :=
  toNat_shiftLeft_or 1 v 1#8 (by decide) (by decide)

theorem toNat_srl (v : Byte) (c : Bool) : (rot .srl v c).1.toNat = v.toNat / 2 := toNat_ushiftRight_eq_div v 1

/-- Settles O8: a bit shifted in is below the bits that a shift to the left leaves, or above those that a shift to the right
leaves. -/
theorem rotatePrimitive : Obligations.RotatePrimitive := fun v c =>
  ⟨⟨toNat_rlc v c, rfl⟩, ⟨toNat_rrc v c, rfl⟩, ⟨toNat_rl v c, rfl⟩, ⟨toNat_rr v c, rfl⟩, ⟨toNat_sla v c, rfl⟩,
    ⟨toNat_sra v c, rfl⟩, ⟨toNat_sll v c, rfl⟩, ⟨toNat_srl v c, rfl⟩⟩

/-! ## In a register -/

theorem rotA_rows : ∀ x ∈ Rows.rotA, IsRow x.1 x.2.1 (.rotA x.2.2) :=
  List.forall_iff_forall_mem.1 (by and_intros <;> exact ⟨fun _ => rfl, rfl⟩)

theorem rotReg_rows : ∀ x ∈ Rows.rotReg, IsRow x.1 x.2.1 (.rotReg x.2.2.1 x.2.2.2) :=
  List.forall_iff_forall_mem.1 (by and_intros <;> exact ⟨fun _ => rfl, rfl⟩)

/-- Settles O37: every row is `rotA` or `rotReg`, whose flags the rules write out. -/
theorem rotateRegisters : Obligations.RotateRegisters := by
  refine fun s => ⟨fun code i op hmem => ?_, fun code i op r hmem => ?_⟩
  · have hrow := rotA_rows _ hmem
    exact ⟨hrow.isCode, hrow.exec_eq s⟩
  · have hrow := rotReg_rows _ hmem
    exact ⟨hrow.isCode, hrow.exec_eq s⟩

/-! ## In memory -/

theorem rotMem_rows (d : Byte) :
    ∀ x ∈ Rows.rotMem d, IsRow x.1 x.2.1 (.rotMem x.1.length x.2.2.1 x.2.2.2.1 x.2.2.2.2) :=
  List.forall_iff_forall_mem.1 (by and_intros <;> exact ⟨fun _ => rfl, rfl⟩)

/-- An operand byte read, changed by `f`, written back and followed by `g` of the byte read: the byte that exists for the read
exists for the write. -/
theorem rewrite_cases (s : State) (loc : Loc) (f : Byte → Byte) (g : Byte → State → State) :
    ByteCases s loc
      (s.effAddr loc >>= fun a => s.memRead a >>= fun v => s.memWrite a (f v) >>= fun t => .ok (g v t))
      fun a => g (s.mem.read a.toNat) (s.storeByte a (f (s.mem.read a.toNat))) :=
  byteCases_memRead fun a hm => by rw [memWrite_present hm]; rfl

theorem nextStoring_copyTo_setFlags {i : Instr} {s : State} {a : Word} {v w : Byte} {copy : Option Reg8} {x : Flags}
    (h : exec i s = .next (((s.storeByte a v).copyTo copy w).setFlags x)) :
    NextStoring i s ((s.copyTo copy w).setFlags x) a v := by
  refine ⟨_, h, ?_, fun k => ?_⟩
  · match copy with
    | none => rfl
    | some r => cases r <;> rfl
  · rw [State.setFlags_mem, State.copyTo_mem]
    exact (storeByte_stored s a v).2 k

/-- Settles O38: every row is `rotMem` on its operand, which stores the new byte and then copies it. -/
theorem rotateMemory : Obligations.RotateMemory := by
  intro s d code i op loc copy hmem
  have hrow := rotMem_rows d _ hmem
  exact ⟨hrow.isCode, (rewrite_cases s loc _ _).onByte (hrow.exec_eq s) fun _ => nextStoring_copyTo_setFlags⟩

/-! ## Decimal rotates -/

/-- Two nibbles put side by side, the low one of `v` above a nibble `x`. -/
theorem shiftLeft_or_eq_ofNat (v : Byte) {x : Byte} (hx : x.toNat < 16) :
    v <<< 4 ||| x = BitVec.ofNat 8 (v.toNat % 16 * 16 + x.toNat) := by
  apply BitVec.eq_of_toNat_eq
  rw [toNat_shiftLeft_or 4 v x (by omega) hx, BitVec.toNat_ofNat]
  omega

theorem shiftLeft_or_lowNibble (v x : Byte) :
    v <<< 4 ||| (x &&& 0x0F#8) = BitVec.ofNat 8 (v.toNat % 16 * 16 + x.toNat % 16) := by
  have hx := toNat_and_lowNibble x
  rw [shiftLeft_or_eq_ofNat v (by omega), hx]

theorem shiftLeft_or_highNibble (v x : Byte) :
    v <<< 4 ||| x >>> 4 = BitVec.ofNat 8 (v.toNat % 16 * 16 + x.toNat / 16) := by
  have hx : (x >>> 4).toNat = x.toNat / 16 := toNat_ushiftRight_eq_div x 4
  have hlt := x.isLt
  rw [shiftLeft_or_eq_ofNat v (by omega), hx]

theorem toNat_highNibble_mod (v : Byte) : (v >>> 4).toNat % 16 = v.toNat / 16 := by
  have hlt := v.isLt
  rw [toNat_ushiftRight_eq_div]
  omega

theorem exec_rld_eq (s : State) : exec .rld s = rotDecimal
    (fun m a => BitVec.ofNat 8 (m.toNat % 16 * 16 + a.toNat % 16))
    (fun m a => BitVec.ofNat 8 (a.toNat / 16 * 16 + m.toNat / 16)) s := by
  show exec_rld s = _
  simp only [exec_rld, and_highNibble_eq, shiftLeft_or_lowNibble, shiftLeft_or_highNibble, toNat_highNibble_mod]

theorem exec_rrd_eq (s : State) : exec .rrd s = rotDecimal
    (fun m a => BitVec.ofNat 8 (a.toNat % 16 * 16 + m.toNat / 16))
    (fun m a => BitVec.ofNat 8 (a.toNat / 16 * 16 + m.toNat % 16)) s := by
  show exec_rrd s = _
  simp only [exec_rrd, and_highNibble_eq, shiftLeft_or_lowNibble, shiftLeft_or_highNibble, toNat_highNibble_mod,
    toNat_and_lowNibble, Nat.mod_mod]

theorem rotDecimal_onByte {b0 b1 : Byte} {i : Instr} {s : State} {mem' a' : Byte → Byte → Byte}
    (hexec : exec i s = rotDecimal mem' a' s) :
    OnByte [b0, b1] i s .hl fun a m =>
      NextStoring i s ((s.setReg8 .a (a' m s.a)).setFlags (s.flags.commitSZP (a' m s.a))) a (mem' m s.a) :=
  (rewrite_cases s .hl (mem' · s.a) _).onByte hexec fun _ => nextStoring_copyTo_setFlags (copy := some .a)

/-- Settles O39: the routing of `rld` and of `rrd` as arithmetic on nibbles, in `rotDecimal`. -/
theorem rotateDecimal : Obligations.RotateDecimal := by
  rintro s code i mem' a' (⟨⟨⟩, rfl, rfl⟩ | ⟨⟨⟩, rfl, rfl⟩)
  · exact ⟨fun _ => rfl, rotDecimal_onByte (exec_rld_eq s)⟩
  · exact ⟨fun _ => rfl, rotDecimal_onByte (exec_rrd_eq s)⟩

end Sys2Proof.Laws
end

section
/-! PROOFS. The family 60_exceptions.md: how a step ends, and that with every address present no access raises. -/

namespace Sys2Proof.Laws

open Sys2Proof.Machine Sys2Proof.Claims

/-! ## Every execute phase answers -/

theorem finish_answers (s : State) (len : Nat) (body : Except AccessFault State) : ∃ t, s.finish len body = .next t := by
  cases body with
  | ok t => exact ⟨t, rfl⟩
  | error e => exact ⟨_, rfl⟩

/-- An operation that accesses memory ends its phase in `finish`, any other one in the state it computes. -/
theorem runForm_answers (f : Form) (s : State) : ∃ t, runForm f s = .next t := by
  cases f
  case callIf cc nn =>
    show ∃ t, (if s.cond cc then callTo 3 nn s else .next s) = .next t
    split
    · exact finish_answers ..
    · exact ⟨s, rfl⟩
  case retIf cc =>
    show ∃ t, (if s.cond cc then retTo 1 s else .next s) = .next t
    split
    · exact finish_answers ..
    · exact ⟨s, rfl⟩
  case loadMem | storeReg | storeImm | loadPairMem | storePair | exTop | add | adc | sub | sbc | incMem | decMem | push |
      pop | call | ret | retInt | cp | ldOnce | ldRepeat | cpOnce | cpRepeat | and | or | xor | bitHl | bitIdx | setMem |
      resMem | inOnce | inRepeat | outOnce | outRepeat | rotMem | rld | rrd =>
    exact finish_answers ..
  all_goals exact ⟨_, rfl⟩

theorem exec_answers (i : Instr) (s : State) : ∃ t, exec i s = .next t := by
  rw [exec_eq_run]
  exact runForm_answers (form i) s

/-! ## How a step ends -/

section Step

variable {s t : State}

theorem step_of_not_run (h : s.status ≠ .run) : step s = .fault (.notRunning s.status) := by
  unfold step
  split
  · exact absurd ‹_› h
  · rfl

theorem step_of_missing_pc (hrun : s.status = .run) (hpc : ¬ s.inMem s.pc) : step s = .next { s with status := .eom } := by
  simp only [step, hrun, if_neg hpc]

theorem step_answers (hrun : s.status = .run) : ∃ t, step s = .next t := by
  by_cases hpc : s.inMem s.pc
  · match hfetch : s.fetch with
    | .ok (i, len) =>
      rw [step_of_fetch_ok hrun hpc hfetch]
      exact exec_answers ..
    | .error info => exact ⟨_, step_of_fetch_error hrun hpc hfetch⟩
  · exact ⟨_, step_of_missing_pc hrun hpc⟩

/-- The ends of an instruction that starts in `RUN`: it runs on, it has halted, or it has faulted. -/
def EndsRunning (s t : State) : Prop :=
  t.params = s.params ∧ (t.status = .run ∨ t.status = .halted ∨ ∃ info, t.status = .fault info)

theorem endsRunning_enterFault (s : State) (info : FaultInfo) : EndsRunning s (s.enterFault info) :=
  ⟨rfl, .inr (.inr ⟨info, rfl⟩)⟩

/-- Only `halt` writes the status, and what it writes is `HALTED`. -/
theorem endsRunning_of_exec {i : Instr} (hrun : s.status = .run) (h : exec i s = .next t) : EndsRunning s t := by
  rcases exec_ends i s t h with hc | ⟨info, rfl⟩
  · refine ⟨hc.params, ?_⟩
    by_cases hw : .status ∈ writes (form i)
    · obtain rfl : i = .halt := writer_of_writes i _ hw
      cases h
      exact .inr (.inl rfl)
    · exact .inl ((hc.status hw).trans hrun)
  · exact endsRunning_enterFault s info

theorem endsRunning_of_step (hrun : s.status = .run) (hpc : s.inMem s.pc) (h : step s = .next t) : EndsRunning s t := by
  match hfetch : s.fetch with
  | .ok (i, len) =>
    rw [step_of_fetch_ok hrun hpc hfetch] at h
    obtain ⟨hparams, hstatus⟩ := endsRunning_of_exec (by simpa [State.fetched] using hrun) h
    exact ⟨by simpa [State.fetched] using hparams, hstatus⟩
  | .error info =>
    rw [step_of_fetch_error hrun hpc hfetch] at h
    cases h
    exact endsRunning_enterFault s info

end Step

/-- Settles O53: every fetch and every execute phase answers, and a state that has faulted is not in `RUN`. -/
theorem stepOutcomes : Obligations.StepOutcomes := by
  refine fun s => ⟨step_of_missing_pc, fun hrun hpc => ?_, step_of_not_run⟩
  obtain ⟨t, ht⟩ := step_answers hrun
  obtain ⟨hparams, hstatus⟩ := endsRunning_of_step hrun hpc ht
  refine ⟨t, ht, hparams, hstatus.imp_right (Or.imp_right ?_)⟩
  rintro ⟨info, hinfo⟩
  refine ⟨info, hinfo, ?_⟩
  rw [step_of_not_run (by rw [hinfo]; exact Status.noConfusion), hinfo]

/-! ## Accesses with every address present -/

section Full

variable {α : Type} {s t : State} (hfull : s.fullMemory)

include hfull

theorem fullMemory_of_params (h : t.params = s.params) : t.fullMemory := by rwa [State.fullMemory, h]

theorem inMem_of_fullMemory (a : Word) : s.inMem a := by
  rw [State.inMem, hfull.1]
  exact a.isLt

theorem addrNext_answers (a : Word) : ∃ b, s.addrNext a = .ok b := ⟨_, resolve_wrap s hfull.2 _⟩

theorem effAddr_answers (loc : Loc) : ∃ a, s.effAddr loc = .ok a := by
  cases loc with
  | idx x d => exact ⟨_, resolve_wrap s hfull.2 _⟩
  | _ => exact ⟨_, rfl⟩

theorem ByteCases.answers {loc : Loc} {x : Except AccessFault α} {u : Word → α} (h : ByteCases s loc x u) :
    ∃ v, x = .ok v := by
  obtain ⟨-, -, hpresent⟩ := h
  obtain ⟨a, ha⟩ := effAddr_answers hfull loc
  exact ⟨_, hpresent a ha (inMem_of_fullMemory hfull a)⟩

theorem WordCases.answers {a : Word} {x : Except AccessFault α} {u : Word → α} (h : WordCases s a x u) :
    ∃ v, x = .ok v := by
  obtain ⟨-, -, -, hboth⟩ := h
  obtain ⟨b, hb⟩ := addrNext_answers hfull a
  exact ⟨_, hboth b (inMem_of_fullMemory hfull a) hb (inMem_of_fullMemory hfull b)⟩

theorem StackCases.answers {a b : Word} {x : Except AccessFault α} {u : α} (h : StackCases s a b x u) :
    ∃ v, x = .ok v := by
  obtain ⟨-, -, hboth⟩ := h
  exact ⟨_, hboth (inMem_of_fullMemory hfull a) (inMem_of_fullMemory hfull b)⟩

theorem memRead_answers (a : Word) : ∃ v, s.memRead a = .ok v := ⟨_, memRead_present (inMem_of_fullMemory hfull a)⟩

theorem memRead16_answers (a : Word) : ∃ v, s.memRead16 a = .ok v :=
  WordCases.answers hfull (memRead16_cases s a)

theorem pop16_answers : ∃ o, s.pop16 = .ok o := StackCases.answers hfull (pop16_cases s)

theorem loadLoc_answers (loc : Loc) : ∃ v, s.loadLoc loc = .ok v := ByteCases.answers hfull (loadLoc_cases s loc)

theorem src8_answers (src : Src8) : ∃ v, s.src8 src = .ok v := by
  cases src with
  | mem loc => exact loadLoc_answers hfull loc
  | _ => exact ⟨_, rfl⟩

end Full

/-! ## Execute phases with every address present -/

section Completes

variable {α : Type} {s t : State}

/-- The computation from `s` answers, and keeps the parameters and the status. -/
def Completes (s : State) (x : Except AccessFault State) : Prop :=
  ∃ t, x = .ok t ∧ t.params = s.params ∧ t.status = s.status

theorem completes_ok (h : KeepsAll s t) : Completes s (.ok t) := ⟨t, rfl, h.1.params, h.1.status⟩

theorem completes_of_keeps {x : Except AccessFault State} (hx : ∃ t, x = .ok t) (hkeeps : ∀ t, x = .ok t → Keeps s t) :
    Completes s x := by
  obtain ⟨t, ht⟩ := hx
  exact ⟨t, ht, (hkeeps t ht).params, (hkeeps t ht).status⟩

theorem completes_bind {x : Except AccessFault α} {f : α → Except AccessFault State} (hx : ∃ a, x = .ok a)
    (hf : ∀ a, x = .ok a → Completes s (f a)) : Completes s (x >>= f) := by
  obtain ⟨a, rfl⟩ := hx
  exact hf a rfl

theorem Completes.map {x : Except AccessFault State} {g : State → State} (hx : Completes s x)
    (hg : ∀ t, KeepsAll t (g t)) : Completes s (x >>= fun t => .ok (g t)) := by
  obtain ⟨t, rfl, hparams, hstatus⟩ := hx
  exact ⟨g t, rfl, (hg t).1.params.trans hparams, (hg t).1.status.trans hstatus⟩

variable (hfull : s.fullMemory)

include hfull

theorem memWrite_completes (a : Word) (v : Byte) : Completes s (s.memWrite a v) :=
  completes_of_keeps ⟨_, memWrite_present (inMem_of_fullMemory hfull a)⟩ fun _ h => (memWrite_keeps h).1

theorem memWrite16_completes (a v : Word) : Completes s (s.memWrite16 a v) :=
  completes_of_keeps (WordCases.answers hfull (memWrite16_cases s a v)) fun _ h => (memWrite16_keeps h).1

theorem push16_completes (v : Word) : Completes s (s.push16 v) :=
  completes_of_keeps (StackCases.answers hfull (push16_cases s v)) fun _ h => (push16_keeps h).1

theorem ldStep_completes (dir : Dir) : Completes s (ldStep dir s) :=
  completes_of_keeps (StackCases.answers hfull (ldStep_cases dir s)) fun _ h => (ldStep_keeps h).1

theorem cpStep_completes (dir : Dir) : Completes s (cpStep dir s) :=
  completes_of_keeps (ByteCases.answers hfull (cpStep_cases dir s)) fun _ h => (cpStep_keeps h).1

theorem inStep_completes (dir : Dir) : Completes s (inStep dir s) :=
  completes_of_keeps (ByteCases.answers hfull (inStep_cases dir s)) fun _ h => (inStep_keeps h).1

theorem outStep_completes (dir : Dir) : Completes s (outStep dir s) :=
  completes_of_keeps (ByteCases.answers hfull (outStep_cases dir s)) fun _ h => (outStep_keeps h).1

/-- A phase that reads a byte operand, writes a byte back and goes on. -/
theorem rewrite_completes (loc : Loc) (f : Byte → Byte) {g : Byte → State → State} (hg : ∀ v t, KeepsAll t (g v t)) :
    Completes s
      (s.effAddr loc >>= fun a => s.memRead a >>= fun v => s.memWrite a (f v) >>= fun t => .ok (g v t)) :=
  completes_bind (effAddr_answers hfull loc) fun a _ => completes_bind (memRead_answers hfull a) fun v _ =>
    (memWrite_completes hfull a (f v)).map (hg v)

omit hfull in
theorem completes_repeatBlock {body : State → Except AccessFault State} {again : State → Bool}
    (hbody : ∀ {u : State}, u.fullMemory → Completes u (body u)) (fuel : Nat) :
    ∀ {s : State}, s.fullMemory → Completes s (repeatBlock body again fuel s) := by
  induction fuel with
  | zero => exact fun _ => completes_ok (KeepsAll.refl _)
  | succ fuel ih =>
    intro s hfull
    obtain ⟨t, ht, hparams, hstatus⟩ := hbody hfull
    rw [repeatBlock, ht]
    show Completes s (if again t then repeatBlock body again fuel (t.updateR 2) else .ok t)
    split
    · obtain ⟨u, hu, hparams', hstatus'⟩ := ih (s := t.updateR 2) (fullMemory_of_params hfull (by simpa using hparams))
      rw [State.updateR_params] at hparams'
      rw [State.updateR_status] at hstatus'
      exact ⟨u, hu, hparams'.trans hparams, hstatus'.trans hstatus⟩
    · exact ⟨t, rfl, hparams, hstatus⟩

/-- The outcome is a next state with the status of `s`. -/
def Finishes (s : State) (o : Host.Outcome State Fault Refusal) : Prop := ∃ t, o = .next t ∧ t.status = s.status

omit hfull in
theorem finishes_of_completes {len : Nat} {body : Except AccessFault State} (h : Completes s body) :
    Finishes s (s.finish len body) := by
  obtain ⟨t, rfl, -, hstatus⟩ := h
  exact ⟨t, rfl, hstatus⟩

theorem finishes_callTo (len : Nat) (target : Word) : Finishes s (callTo len target s) :=
  finishes_of_completes ((push16_completes hfull s.pc).map (keepsAll_jump · target))

theorem finishes_retTo (len : Nat) : Finishes s (retTo len s) :=
  finishes_of_completes (completes_bind (pop16_answers hfull) fun _ ho =>
    completes_ok ((pop16_keeps ho).trans (keepsAll_jump _ _)))

/-- Every operation but `halt`'s runs to its end, and writes no status; those left to the last line access no memory. -/
theorem runForm_finishes (f : Form) (hf : f ≠ .halt) : Finishes s (runForm f s) := by
  cases f
  case halt => exact absurd rfl hf
  case loadMem dst loc =>
    exact finishes_of_completes (completes_bind (loadLoc_answers hfull loc) fun _ _ => completes_ok (keepsAll_setReg8 _ _ _))
  case loadPairMem dst nn =>
    exact finishes_of_completes (completes_bind (memRead16_answers hfull nn) fun _ _ => completes_ok (keepsAll_setPair _ _ _))
  case storeReg loc _ | storeImm loc _ =>
    exact finishes_of_completes (completes_bind (effAddr_answers hfull loc) fun a _ => memWrite_completes hfull a _)
  case storePair => exact finishes_of_completes (memWrite16_completes hfull _ _)
  case exTop =>
    exact finishes_of_completes (completes_bind (memRead16_answers hfull s.sp) fun _ _ =>
      (memWrite16_completes hfull _ _).map (keepsAll_setPair · _ _))
  case add src | adc src | sub src | sbc src | and src | or src | xor src | cp src =>
    exact finishes_of_completes (completes_bind (src8_answers hfull src) fun _ _ => ⟨_, rfl, rfl, rfl⟩)
  case incMem loc | decMem loc =>
    exact finishes_of_completes (rewrite_completes hfull loc _ fun _ t => keepsAll_setFlags t _)
  case setMem loc copy | resMem loc copy =>
    exact finishes_of_completes (rewrite_completes hfull loc _ fun _ t => keepsAll_copyTo t copy _)
  case rotMem loc copy =>
    exact finishes_of_completes (rewrite_completes hfull loc _ fun _ t =>
      (keepsAll_copyTo t copy _).trans (keepsAll_setFlags _ _))
  case rld | rrd =>
    exact finishes_of_completes (rewrite_completes hfull .hl _ fun _ t => keepsAll_setReg8_setFlags .a _ _)
  case bitHl => exact finishes_of_completes (completes_bind (memRead_answers hfull _) fun _ _ => ⟨_, rfl, rfl, rfl⟩)
  case bitIdx =>
    exact finishes_of_completes (completes_bind (effAddr_answers hfull _) fun _ _ =>
      completes_bind (memRead_answers hfull _) fun _ _ => ⟨_, rfl, rfl, rfl⟩)
  case push => exact finishes_of_completes (push16_completes hfull _)
  case pop p =>
    exact finishes_of_completes (completes_bind (pop16_answers hfull) fun o ho =>
      completes_ok ((pop16_keeps ho).trans (keepsAll_setPair o.2 p o.1)))
  case call => exact finishes_callTo hfull _ _
  case ret => exact finishes_retTo hfull _
  case retInt =>
    exact finishes_of_completes (completes_bind (pop16_answers hfull) fun _ ho =>
      ⟨_, rfl, (pop16_keeps ho).1.params, (pop16_keeps ho).1.status⟩)
  case callIf cc nn =>
    show Finishes s (if s.cond cc then callTo 3 nn s else .next s)
    split
    · exact finishes_callTo hfull _ _
    · exact ⟨s, rfl, rfl⟩
  case retIf cc =>
    show Finishes s (if s.cond cc then retTo 1 s else .next s)
    split
    · exact finishes_retTo hfull _
    · exact ⟨s, rfl, rfl⟩
  case ldOnce dir => exact finishes_of_completes (ldStep_completes hfull dir)
  case cpOnce dir => exact finishes_of_completes (cpStep_completes hfull dir)
  case inOnce dir => exact finishes_of_completes (inStep_completes hfull dir)
  case outOnce dir => exact finishes_of_completes (outStep_completes hfull dir)
  case ldRepeat dir => exact finishes_of_completes (completes_repeatBlock (ldStep_completes · dir) _ hfull)
  case cpRepeat dir => exact finishes_of_completes (completes_repeatBlock (cpStep_completes · dir) _ hfull)
  case inRepeat dir => exact finishes_of_completes (completes_repeatBlock (inStep_completes · dir) _ hfull)
  case outRepeat dir => exact finishes_of_completes (completes_repeatBlock (outStep_completes · dir) _ hfull)
  case jump | jumpIf | jumpRel | jumpRelIf | jumpPair => exact ⟨_, jumpIf_eq _ _ s, rfl⟩
  case djnz => exact ⟨_, decJump_eq _ s, rfl⟩
  all_goals exact ⟨_, rfl, by simp⟩

end Completes

/-! ## Fetching with every address present -/

section Fetch

variable {b0 b1 : Byte} {stream : List Byte} {s : State}

/-- No entry takes more than two operand bytes. -/
theorem take_ne_truncated (e : Entry) (h : 2 ≤ stream.length) : e.take b0 b1 stream ≠ .error .truncated :=
  match stream, h with
  | _ :: _ :: _, _ => by cases e <;> exact nofun

theorem takeIndexedCb_ne_truncated (map : List (List (Byte → Instr))) (h : 2 ≤ stream.length) :
    takeIndexedCb map b0 b1 stream ≠ .error .truncated :=
  match stream, h with
  | _ :: _ :: _, _ => by
    rw [takeIndexedCb]
    split <;> exact nofun

theorem takePrefixed_ne_truncated (map : List (List Entry)) (h : 3 ≤ stream.length) :
    takePrefixed map b0 stream ≠ .error .truncated :=
  match stream, h with
  | _ :: _, h => take_ne_truncated _ (Nat.le_of_succ_le_succ h)

theorem takeIndexed_ne_truncated (map : List (List Entry)) (cbMap : List (List (Byte → Instr))) (h : 3 ≤ stream.length) :
    takeIndexed map cbMap b0 stream ≠ .error .truncated :=
  match stream, h with
  | _ :: _, h => by
    rw [takeIndexed]
    split
    · exact takeIndexedCb_ne_truncated cbMap (Nat.le_of_succ_le_succ h)
    · exact take_ne_truncated _ (Nat.le_of_succ_le_succ h)

/-- Four bytes are enough for every instruction (30_encoding.md R80). -/
theorem decode_ne_truncated {bytes : List Byte} (h : 4 ≤ bytes.length) : decode bytes ≠ .error .truncated :=
  match bytes, h with
  | b0 :: stream, h => by
    have hstream : 3 ≤ stream.length := Nat.le_of_succ_le_succ h
    obtain rfl | rfl | rfl | rfl | hmain := firstByte_cases b0
    · exact takePrefixed_ne_truncated cbMap hstream
    · exact takePrefixed_ne_truncated edMap hstream
    · exact takeIndexed_ne_truncated ddMap ddcbMap hstream
    · exact takeIndexed_ne_truncated fdMap fdcbMap hstream
    · rw [decode_main hmain]
      exact take_ne_truncated _ (by omega)

theorem bytesFrom_length (hfull : s.fullMemory) (n : Nat) (a : Word) : (s.bytesFrom n a).length = n := by
  induction n generalizing a with
  | zero => rfl
  | succ n ih => rw [State.bytesFrom, if_pos (inMem_of_fullMemory hfull a), List.length_cons, ih]

/-- The only fault of a fetch is an illegal encoding. -/
theorem fetch_fault (hfull : s.fullMemory) {info : FaultInfo} (h : s.fetch = .error info) :
    ∃ b0 b1, info = .illegalOpcode b0 b1 s.pc := by
  simp only [State.fetch] at h
  split at h
  · cases h
  · cases h
    exact ⟨_, _, rfl⟩
  · rename_i htrunc
    exact absurd htrunc (decode_ne_truncated (bytesFrom_length hfull _ _).ge)

end Fetch

/-- The operation `halt` belongs to the instruction `halt` alone. -/
theorem eq_halt_of_form {i : Instr} (h : form i = .halt) : i = .halt :=
  writer_of_writes i .status (by rw [h]; exact List.mem_singleton_self _)

theorem exec_status {s : State} (hfull : s.fullMemory) (i : Instr) :
    ∃ t, exec i s = .next t ∧ t.status = if i = .halt then .halted else s.status := by
  by_cases hi : i = .halt
  · subst hi
    exact ⟨_, rfl, rfl⟩
  · rw [exec_eq_run, if_neg hi]
    exact runForm_finishes hfull (form i) (mt eq_halt_of_form hi)

/-- A step ends running, halted or in an illegal encoding. -/
theorem step_status {s t : State} (hfull : s.fullMemory) (h : step s = .next t) :
    t.status = .run ∨ t.status = .halted ∨ ∃ b0 b1, t.status = .fault (.illegalOpcode b0 b1 s.pc) := by
  by_cases hrun : s.status = .run
  · have hpc := inMem_of_fullMemory hfull s.pc
    match hfetch : s.fetch with
    | .ok (i, len) =>
      obtain ⟨u, hu, hstatus⟩ := exec_status (s := s.fetched i len) (fullMemory_of_params hfull (by simp [State.fetched])) i
      rw [step_of_fetch_ok hrun hpc hfetch, hu] at h
      cases h
      split at hstatus
      · exact .inr (.inl hstatus)
      · exact .inl (by simpa [State.fetched, hrun] using hstatus)
    | .error info =>
      obtain ⟨b0, b1, rfl⟩ := fetch_fault hfull hfetch
      rw [step_of_fetch_error hrun hpc hfetch] at h
      cases h
      exact .inr (.inr ⟨b0, b1, rfl⟩)
  · rw [step_of_not_run hrun] at h
    cases h

/-- Settles O54: every access answers, so that nothing is left to fault but the decoder. -/
theorem fullMemoryNeverFaults : Obligations.FullMemoryNeverFaults := by
  refine fun s hfull => ⟨exec_status hfull, fun t h => ?_⟩
  obtain hstatus | hstatus | ⟨b0, b1, hstatus⟩ := step_status hfull h <;> rw [hstatus] <;> exact ⟨nofun, nofun⟩

end Sys2Proof.Laws
end

section
/-! PROOFS. The family 70_reset_and_hazards.md: the run loop, and the execute-one entry. -/

namespace Sys2Proof.Laws

open Sys2Proof.Machine Sys2Proof.Claims

/-! ## The run loop, one pass at a time -/

section Run

variable {stop : Option Word} {s t : State}

theorem atStop_iff : s.atStop stop = true ↔ ∃ x, stop = some x ∧ x.toNat ≤ s.pc.toNat := by
  cases stop <;> simp [State.atStop]

theorem not_atStop_iff : ¬ s.atStop stop = true ↔ ∀ x, stop = some x → s.pc.toNat < x.toNat := by
  rw [atStop_iff]
  simp

theorem run_of_not_run (fuel : Nat) (h : s.status ≠ .run) : run stop fuel s = .ended s := by
  cases fuel <;> rw [run, if_neg h]

theorem run_of_atStop (fuel : Nat) (hrun : s.status = .run) (hstop : s.atStop stop = true) :
    run stop fuel s = .stopped s := by
  cases fuel <;> rw [run, if_pos hrun, if_pos hstop]

theorem run_zero (hrun : s.status = .run) (hstop : ¬ s.atStop stop = true) : run stop 0 s = .running s := by
  rw [run, if_pos hrun, if_neg hstop]

theorem run_succ (fuel : Nat) (hrun : s.status = .run) (hstop : ¬ s.atStop stop = true) (hstep : step s = .next t) :
    run stop (fuel + 1) s = run stop fuel t := by
  rw [run, if_pos hrun, if_neg hstop, hstep]

/-- What is true of the state in which a run ends: it is at its stop address, it has left `RUN`, or it is on the way. -/
def EndsSoundly (stop : Option Word) : RunEnd → Prop
  | .stopped t => t.status = .run ∧ t.atStop stop = true
  | .ended t => t.status ≠ .run
  | .running t => t.status = .run ∧ ¬ t.atStop stop = true
  | .noStep => False

theorem run_endsSoundly (stop : Option Word) (fuel : Nat) (s : State) : EndsSoundly stop (run stop fuel s) := by
  induction fuel generalizing s with
  | zero =>
    by_cases hrun : s.status = .run
    · by_cases hstop : s.atStop stop = true
      · rw [run_of_atStop 0 hrun hstop]
        exact ⟨hrun, hstop⟩
      · rw [run_zero hrun hstop]
        exact ⟨hrun, hstop⟩
    · rw [run_of_not_run 0 hrun]
      exact hrun
  | succ fuel ih =>
    by_cases hrun : s.status = .run
    · by_cases hstop : s.atStop stop = true
      · rw [run_of_atStop _ hrun hstop]
        exact ⟨hrun, hstop⟩
      · obtain ⟨t, ht⟩ := step_answers hrun
        rw [run_succ fuel hrun hstop ht]
        exact ih t
    · rw [run_of_not_run _ hrun]
      exact hrun

end Run

/-- Settles O58: the passes of the loop, and what holds in the state where they end. -/
theorem runLoop : Obligations.RunLoop := by
  intro stop fuel s
  have hends := run_endsSoundly stop fuel s
  refine ⟨run_of_not_run fuel, fun hrun hstop => run_of_atStop fuel hrun (atStop_iff.2 hstop), fun hrun hstop => ?_,
    fun t h => ?_, fun t h => ?_, fun t h => ?_, fun h => ?_⟩
  · have hbelow := not_atStop_iff.2 hstop
    obtain ⟨t, ht⟩ := step_answers hrun
    exact ⟨run_zero hrun hbelow, t, ht, run_succ fuel hrun hbelow ht⟩
  all_goals rw [h] at hends
  · exact hends.imp_right atStop_iff.1
  · exact hends
  · exact hends.imp_right not_atStop_iff.1
  · exact hends

/-! ## Execute-one -/

section ExecuteOne

variable {s : State} {ins i : Instr} {code : List Byte} {b0 d d' op : Byte}

/-- An entry takes at most two bytes. -/
theorem take_length {e : Entry} {b0 b1 : Byte} {stream rest : List Byte} (h : e.take b0 b1 stream = .ok (i, rest)) :
    stream.length ≤ rest.length + 2 := by
  unfold Entry.take at h
  split at h <;> cases h <;> simp

/-- The encodings of four bytes open a longer format. -/
theorem opensFormatByte_of_isCode {b1 b2 b3 : Byte} (h : IsCode [b0, b1, b2, b3] i) : opensFormatByte b0 = true := by
  rw [← Bool.not_eq_false]
  intro hmain
  have hdecode := h []
  rw [List.append_nil, decode_main hmain] at hdecode
  have hlength : 3 ≤ 0 + 2 := take_length hdecode
  omega

/-- How many opcode bytes begin the code: two where a byte opens a longer format, else one (30_encoding.md R102). -/
def fetchCount (code : List Byte) : Nat :=
  if code.head? ∈ [some 0xCB, some 0xDD, some 0xED, some 0xFD] then 2 else 1

theorem fetchCount_cases (code : List Byte) : fetchCount code = 1 ∨ fetchCount code = 2 := by
  unfold fetchCount
  split
  · exact .inr rfl
  · exact .inl rfl

theorem fetchCount_of_opensFormatByte {rest : List Byte} (h : opensFormatByte b0 = true) :
    fetchCount (b0 :: rest) = 2 := by
  have h' : b0 = 0xCB ∨ b0 = 0xDD ∨ b0 = 0xED ∨ b0 = 0xFD := by simpa [opensFormatByte] using h
  exact if_pos (by simpa using h')

theorem fetched_of_isCode (hcode : IsCode code i) (n : Nat) : s.fetched i n =
    { s with pc := s.pc + BitVec.ofNat 16 n, r := refreshed s (fetchCount code) } := by
  rw [State.fetched, updateR_eq, opcodeFetches_eq, ((isCode_iff code i).1 hcode).2]
  rfl

theorem operandBytes_present (hat : CodeAtPc s code) : s.operandBytes code.length = .ok code := by
  have hbytes : s.bytesFrom code.length s.pc = code := by
    rw [bytesFrom_append le_rfl hat, Nat.sub_self]
    exact List.append_nil code
  simp only [State.operandBytes, hbytes, if_true]

theorem fetchOperands_indexedCb (hins : encode ins = [b0, 0xCB, d', op]) (hcode : IsCode [b0, 0xCB, d, op] i)
    (hat : CodeAtPc s [d]) : s.fetchOperands ins = .ok (i, 2) := by
  have hoperand : s.operandBytes 1 = .ok [d] := operandBytes_present hat
  have hdecode : decode (b0 :: 0xCB :: ([d] ++ [op])) = .ok (i, []) := hcode []
  unfold State.fetchOperands
  rw [hins]
  show (s.operandBytes 1 >>= fun bytes => match decode (b0 :: 0xCB :: (bytes ++ [op])) with
    | .ok (j, _) => .ok (j, 2)
    | .error _ => .ok (ins, 2)) = _
  simp only [hoperand, bind, Except.bind, hdecode]

theorem opcodeFetches_eq_fetchCount (i : Instr) : i.opcodeFetches = fetchCount (encode i) := opcodeFetches_eq i

/-- Codes that begin with the same bytes, as many as one of them fetches as opcode bytes, fetch the same number. -/
theorem fetchCount_congr {other : List Byte} (h : other.take (fetchCount code) = code.take (fetchCount code)) :
    fetchCount other = fetchCount code := by
  have hhead : other.head? = code.head? := by
    have htake := congrArg List.head? h
    have hne : fetchCount code ≠ 0 := by have := fetchCount_cases code; omega
    simpa [List.head?_take, hne] using htake
  rw [fetchCount, hhead]
  rfl

/-- A named row that begins with the opcode bytes of a code outside the `DDCB` and `FDCB` formats is outside them too. -/
theorem encode_ne_indexedCb (hwf : WellFormed ins)
    (hlength : (encode ins).length = code.length) (hcode : ∀ b0 d op, code ≠ [b0, 0xCB, d, op])
    (hopcode : (encode ins).take (fetchCount code) = code.take (fetchCount code)) (b0 d op : Byte) :
    encode ins ≠ [b0, 0xCB, d, op] := by
  intro henc
  have hcount : fetchCount code = 2 := by
    rw [← fetchCount_congr hopcode, henc]
    exact fetchCount_of_opensFormatByte (opensFormatByte_of_isCode ((isCode_iff _ ins).2 ⟨hwf, henc⟩))
  rw [hcount, henc] at hopcode
  rw [henc] at hlength
  match code, hlength, hopcode, hcode with
  | [c0, c1, c2, c3], _, hopcode, hcode =>
    simp only [List.take_succ_cons, List.take_zero, List.cons.injEq, and_true] at hopcode
    exact hcode c0 c2 c3 (by rw [← hopcode.2])

theorem fetchOperands_eq (hwf : WellFormed ins) (hcode : IsCode code i) (hlength : (encode ins).length = code.length)
    (hnot : ∀ b0 d op, code ≠ [b0, 0xCB, d, op])
    (hopcode : (encode ins).take (fetchCount code) = code.take (fetchCount code))
    (hat : CodeAtPc s (code.drop (fetchCount code))) :
    s.fetchOperands ins = .ok (i, code.length - fetchCount code) := by
  have hcount : ins.opcodeFetches = fetchCount code :=
    (opcodeFetches_eq_fetchCount ins).trans (fetchCount_congr hopcode)
  have hoperand : s.operandBytes (code.length - fetchCount code) = .ok (code.drop (fetchCount code)) := by
    rw [← List.length_drop]
    exact operandBytes_present hat
  have hdecode : decode (code.take (fetchCount code) ++ code.drop (fetchCount code)) = .ok (i, []) := by
    rw [List.take_append_drop]
    simpa using hcode []
  unfold State.fetchOperands
  split
  · exact absurd ‹_› (encode_ne_indexedCb hwf hlength hnot hopcode _ _ _)
  · simp only [hcount, hlength, hoperand, hopcode, bind, Except.bind, hdecode, List.length_drop]
    rfl

theorem executeOne_of_not_run (h : s.status ≠ .run) :
    executeOne ins s = .refused (.executeOneNotRunning s.status) := by
  unfold executeOne
  split
  · exact absurd ‹_› h
  · rfl

theorem executeOne_of_fetchOperands {n : Nat} (hrun : s.status = .run) (h : s.fetchOperands ins = .ok (i, n)) :
    executeOne ins s = exec i (s.fetched i n) := by
  simp only [executeOne, hrun, h, execute]

end ExecuteOne

/-- Settles O59: the operand fetches put the code together again, and then the phase is a step's. -/
theorem executeOneInstruction : Obligations.ExecuteOneInstruction := by
  refine fun s ins i code => ⟨executeOne_of_not_run, fun hrun hwf hcode hlength => ⟨?_, ?_⟩⟩
  · intro hnot hopcode hat
    rw [executeOne_of_fetchOperands hrun (fetchOperands_eq hwf hcode hlength hnot hopcode hat), fetched_of_isCode hcode]
    rfl
  · rintro b0 d d' op rfl hins hat
    rw [executeOne_of_fetchOperands hrun (fetchOperands_indexedCb hins hcode hat), fetched_of_isCode hcode,
      fetchCount_of_opensFormatByte (opensFormatByte_of_isCode hcode)]
    rfl

end Sys2Proof.Laws
end
